-- ==== Sys2Proof/Word.lean ====
section
/-! DEFINITION. The two word types of the hardware (R6: 8-bit data, 16-bit addresses). -/

namespace Sys2Proof

/-- A u8: a register, a bus datum, an instruction byte (R6, R8). -/
abbrev Byte := BitVec 8

/-- A u16: a bus address or the program counter (R6, R8). -/
abbrev Word := BitVec 16

end Sys2Proof
end

