-- ==== Sys2Proof/Config.lean ====
section
/-! DEFINITION. What an implementation fixes and what the spec leaves open (R7, 92_eei_decisions.md). -/

namespace Sys2Proof

/-- Which access of an instruction a bus read is; it only names the draw of an unspecified read. -/
inductive Access where
  | opcode | operand1 | operand2 | pointerLow | pointerHigh | data | stack
  deriving DecidableEq, Repr

/-- FREE VALUE (DESIGN CHOICE, safe, log entry 11): the u8 that a read of video offset 0x12 returns (R69, D22), for the
n-th executed instruction and its access `k`. It has no body, so nothing can be proved of its value. -/
opaque Config.rasterLowRead (n : Nat) (k : Access) : Byte

/-- The implementation parameters of R7 that an instruction reads. A machine has them from power-on and nothing
changes them; State carries them, so a statement over all states holds for every choice of them. -/
structure Params where
  /-- Bits 5 and 4 of `PHP_OR`; its other bits are 0 (R7, R172, D4; log entry 8). -/
  phpOr : BitVec 2
  /-- `JMP_IND_PAGE_WRAP` (R7, R115, D6; log entry 9). -/
  jmpIndPageWrap : Bool
  /-- `ZP_PTR_WRAP` (R7, R116, R117, D7; log entry 10). -/
  zpPtrWrap : Bool
  deriving DecidableEq, Repr

/-- The simulator defaults of R7: `PHP_OR = 0x30`, both wraps false. DESIGN CHOICE for State.reset (log entries 8, 9,
10; unsafe for a claim about the run from State.reset alone). -/
def Params.simulator : Params :=
  { phpOr := 0b11, jmpIndPageWrap := false, zpPtrWrap := false }

end Sys2Proof
end

