-- ==== Sys2Proof/Syntax.lean ====
section
/-! DEFINITION. The instructions: one constructor per row of spec/opcode_table.json (R96, R97), named by the row's
mnemonic and addressing mode. Its argument is the operand the row's format carries after the opcode byte (R93, R95):
nothing (F1), the byte `nn` (F2), or the word `hhll` whose low byte comes first (F3). -/

namespace Sys2Proof

inductive Instr where
  -- 41_load_store_transfer.md
  /-- `LDA #$nn` (R120, R107). -/
  | ldaImm (nn : Byte)
  /-- `LDA $nn` (R120, R108). -/
  | ldaZp (nn : Byte)
  /-- `LDA $nn,X` (R120, R109). -/
  | ldaZpx (nn : Byte)
  /-- `LDA $hhll` (R120, R111). -/
  | ldaAbs (hhll : Word)
  /-- `LDA $hhll,X` (R120, R112). -/
  | ldaAbsx (hhll : Word)
  /-- `LDA $hhll,Y` (R120, R113). -/
  | ldaAbsy (hhll : Word)
  /-- `LDA ($nn,X)` (R120, R116). -/
  | ldaIndx (nn : Byte)
  /-- `LDA ($nn),Y` (R120, R117). -/
  | ldaIndy (nn : Byte)
  /-- `LDX #$nn` (R121, R107). -/
  | ldxImm (nn : Byte)
  /-- `LDX $nn` (R121, R108). -/
  | ldxZp (nn : Byte)
  /-- `LDX $nn,Y` (R121, R110). -/
  | ldxZpy (nn : Byte)
  /-- `LDX $hhll` (R121, R111). -/
  | ldxAbs (hhll : Word)
  /-- `LDX $hhll,Y` (R121, R113). -/
  | ldxAbsy (hhll : Word)
  /-- `LDY #$nn` (R122, R107). -/
  | ldyImm (nn : Byte)
  /-- `LDY $nn` (R122, R108). -/
  | ldyZp (nn : Byte)
  /-- `LDY $nn,X` (R122, R109). -/
  | ldyZpx (nn : Byte)
  /-- `LDY $hhll` (R122, R111). -/
  | ldyAbs (hhll : Word)
  /-- `LDY $hhll,X` (R122, R112). -/
  | ldyAbsx (hhll : Word)
  /-- `STA $nn` (R123, R108). -/
  | staZp (nn : Byte)
  /-- `STA $nn,X` (R123, R109). -/
  | staZpx (nn : Byte)
  /-- `STA $hhll` (R123, R111). -/
  | staAbs (hhll : Word)
  /-- `STA $hhll,X` (R123, R112). -/
  | staAbsx (hhll : Word)
  /-- `STA $hhll,Y` (R123, R113). -/
  | staAbsy (hhll : Word)
  /-- `STA ($nn,X)` (R123, R116). -/
  | staIndx (nn : Byte)
  /-- `STA ($nn),Y` (R123, R117). -/
  | staIndy (nn : Byte)
  /-- `STX $nn` (R124, R108). -/
  | stxZp (nn : Byte)
  /-- `STX $nn,Y` (R124, R110). -/
  | stxZpy (nn : Byte)
  /-- `STX $hhll` (R124, R111). -/
  | stxAbs (hhll : Word)
  /-- `STY $nn` (R125, R108). -/
  | styZp (nn : Byte)
  /-- `STY $nn,X` (R125, R109). -/
  | styZpx (nn : Byte)
  /-- `STY $hhll` (R125, R111). -/
  | styAbs (hhll : Word)
  /-- `TAX` (R126, R105). -/
  | tax
  /-- `TAY` (R127, R105). -/
  | tay
  /-- `TXA` (R128, R105). -/
  | txa
  /-- `TYA` (R129, R105). -/
  | tya
  /-- `TSX` (R130, R105). -/
  | tsx
  /-- `TXS` (R131, R105). -/
  | txs
  -- 42_arith_logic.md
  /-- `ADC #$nn` (R134, R107). -/
  | adcImm (nn : Byte)
  /-- `ADC $nn` (R134, R108). -/
  | adcZp (nn : Byte)
  /-- `ADC $nn,X` (R134, R109). -/
  | adcZpx (nn : Byte)
  /-- `ADC $hhll` (R134, R111). -/
  | adcAbs (hhll : Word)
  /-- `ADC $hhll,X` (R134, R112). -/
  | adcAbsx (hhll : Word)
  /-- `ADC $hhll,Y` (R134, R113). -/
  | adcAbsy (hhll : Word)
  /-- `ADC ($nn,X)` (R134, R116). -/
  | adcIndx (nn : Byte)
  /-- `ADC ($nn),Y` (R134, R117). -/
  | adcIndy (nn : Byte)
  /-- `SBC #$nn` (R135, R107). -/
  | sbcImm (nn : Byte)
  /-- `SBC $nn` (R135, R108). -/
  | sbcZp (nn : Byte)
  /-- `SBC $nn,X` (R135, R109). -/
  | sbcZpx (nn : Byte)
  /-- `SBC $hhll` (R135, R111). -/
  | sbcAbs (hhll : Word)
  /-- `SBC $hhll,X` (R135, R112). -/
  | sbcAbsx (hhll : Word)
  /-- `SBC $hhll,Y` (R135, R113). -/
  | sbcAbsy (hhll : Word)
  /-- `SBC ($nn,X)` (R135, R116). -/
  | sbcIndx (nn : Byte)
  /-- `SBC ($nn),Y` (R135, R117). -/
  | sbcIndy (nn : Byte)
  /-- `CMP #$nn` (R136, R107). -/
  | cmpImm (nn : Byte)
  /-- `CMP $nn` (R136, R108). -/
  | cmpZp (nn : Byte)
  /-- `CMP $nn,X` (R136, R109). -/
  | cmpZpx (nn : Byte)
  /-- `CMP $hhll` (R136, R111). -/
  | cmpAbs (hhll : Word)
  /-- `CMP $hhll,X` (R136, R112). -/
  | cmpAbsx (hhll : Word)
  /-- `CMP $hhll,Y` (R136, R113). -/
  | cmpAbsy (hhll : Word)
  /-- `CMP ($nn,X)` (R136, R116). -/
  | cmpIndx (nn : Byte)
  /-- `CMP ($nn),Y` (R136, R117). -/
  | cmpIndy (nn : Byte)
  /-- `CPX #$nn` (R137, R107). -/
  | cpxImm (nn : Byte)
  /-- `CPX $nn` (R137, R108). -/
  | cpxZp (nn : Byte)
  /-- `CPX $hhll` (R137, R111). -/
  | cpxAbs (hhll : Word)
  /-- `CPY #$nn` (R138, R107). -/
  | cpyImm (nn : Byte)
  /-- `CPY $nn` (R138, R108). -/
  | cpyZp (nn : Byte)
  /-- `CPY $hhll` (R138, R111). -/
  | cpyAbs (hhll : Word)
  /-- `AND #$nn` (R139, R107). -/
  | andImm (nn : Byte)
  /-- `AND $nn` (R139, R108). -/
  | andZp (nn : Byte)
  /-- `AND $nn,X` (R139, R109). -/
  | andZpx (nn : Byte)
  /-- `AND $hhll` (R139, R111). -/
  | andAbs (hhll : Word)
  /-- `AND $hhll,X` (R139, R112). -/
  | andAbsx (hhll : Word)
  /-- `AND $hhll,Y` (R139, R113). -/
  | andAbsy (hhll : Word)
  /-- `AND ($nn,X)` (R139, R116). -/
  | andIndx (nn : Byte)
  /-- `AND ($nn),Y` (R139, R117). -/
  | andIndy (nn : Byte)
  /-- `ORA #$nn` (R140, R107). -/
  | oraImm (nn : Byte)
  /-- `ORA $nn` (R140, R108). -/
  | oraZp (nn : Byte)
  /-- `ORA $nn,X` (R140, R109). -/
  | oraZpx (nn : Byte)
  /-- `ORA $hhll` (R140, R111). -/
  | oraAbs (hhll : Word)
  /-- `ORA $hhll,X` (R140, R112). -/
  | oraAbsx (hhll : Word)
  /-- `ORA $hhll,Y` (R140, R113). -/
  | oraAbsy (hhll : Word)
  /-- `ORA ($nn,X)` (R140, R116). -/
  | oraIndx (nn : Byte)
  /-- `ORA ($nn),Y` (R140, R117). -/
  | oraIndy (nn : Byte)
  /-- `EOR #$nn` (R141, R107). -/
  | eorImm (nn : Byte)
  /-- `EOR $nn` (R141, R108). -/
  | eorZp (nn : Byte)
  /-- `EOR $nn,X` (R141, R109). -/
  | eorZpx (nn : Byte)
  /-- `EOR $hhll` (R141, R111). -/
  | eorAbs (hhll : Word)
  /-- `EOR $hhll,X` (R141, R112). -/
  | eorAbsx (hhll : Word)
  /-- `EOR $hhll,Y` (R141, R113). -/
  | eorAbsy (hhll : Word)
  /-- `EOR ($nn,X)` (R141, R116). -/
  | eorIndx (nn : Byte)
  /-- `EOR ($nn),Y` (R141, R117). -/
  | eorIndy (nn : Byte)
  /-- `BIT $nn` (R142, R108). -/
  | bitZp (nn : Byte)
  /-- `BIT $hhll` (R142, R111). -/
  | bitAbs (hhll : Word)
  /-- `INC $nn` (R143, R108). -/
  | incZp (nn : Byte)
  /-- `INC $nn,X` (R143, R109). -/
  | incZpx (nn : Byte)
  /-- `INC $hhll` (R143, R111). -/
  | incAbs (hhll : Word)
  /-- `INC $hhll,X` (R143, R112). -/
  | incAbsx (hhll : Word)
  /-- `DEC $nn` (R144, R108). -/
  | decZp (nn : Byte)
  /-- `DEC $nn,X` (R144, R109). -/
  | decZpx (nn : Byte)
  /-- `DEC $hhll` (R144, R111). -/
  | decAbs (hhll : Word)
  /-- `DEC $hhll,X` (R144, R112). -/
  | decAbsx (hhll : Word)
  /-- `INX` (R145, R105). -/
  | inx
  /-- `INY` (R146, R105). -/
  | iny
  /-- `DEX` (R147, R105). -/
  | dex
  /-- `DEY` (R148, R105). -/
  | dey
  -- 43_shift_rotate.md
  /-- `ASL A` (R152, R106). -/
  | aslAcc
  /-- `ASL $nn` (R152, R108). -/
  | aslZp (nn : Byte)
  /-- `ASL $nn,X` (R152, R109). -/
  | aslZpx (nn : Byte)
  /-- `ASL $hhll` (R152, R111). -/
  | aslAbs (hhll : Word)
  /-- `ASL $hhll,X` (R152, R112). -/
  | aslAbsx (hhll : Word)
  /-- `LSR A` (R153, R106). -/
  | lsrAcc
  /-- `LSR $nn` (R153, R108). -/
  | lsrZp (nn : Byte)
  /-- `LSR $nn,X` (R153, R109). -/
  | lsrZpx (nn : Byte)
  /-- `LSR $hhll` (R153, R111). -/
  | lsrAbs (hhll : Word)
  /-- `LSR $hhll,X` (R153, R112). -/
  | lsrAbsx (hhll : Word)
  /-- `ROL A` (R154, R106). -/
  | rolAcc
  /-- `ROL $nn` (R154, R108). -/
  | rolZp (nn : Byte)
  /-- `ROL $nn,X` (R154, R109). -/
  | rolZpx (nn : Byte)
  /-- `ROL $hhll` (R154, R111). -/
  | rolAbs (hhll : Word)
  /-- `ROL $hhll,X` (R154, R112). -/
  | rolAbsx (hhll : Word)
  /-- `ROR A` (R155, R106). -/
  | rorAcc
  /-- `ROR $nn` (R155, R108). -/
  | rorZp (nn : Byte)
  /-- `ROR $nn,X` (R155, R109). -/
  | rorZpx (nn : Byte)
  /-- `ROR $hhll` (R155, R111). -/
  | rorAbs (hhll : Word)
  /-- `ROR $hhll,X` (R155, R112). -/
  | rorAbsx (hhll : Word)
  -- 44_control.md
  /-- `BPL $tttt` (R157, R114). -/
  | bpl (nn : Byte)
  /-- `BMI $tttt` (R158, R114). -/
  | bmi (nn : Byte)
  /-- `BVC $tttt` (R159, R114). -/
  | bvc (nn : Byte)
  /-- `BVS $tttt` (R160, R114). -/
  | bvs (nn : Byte)
  /-- `BCC $tttt` (R161, R114). -/
  | bcc (nn : Byte)
  /-- `BCS $tttt` (R162, R114). -/
  | bcs (nn : Byte)
  /-- `BNE $tttt` (R163, R114). -/
  | bne (nn : Byte)
  /-- `BEQ $tttt` (R164, R114). -/
  | beq (nn : Byte)
  /-- `JMP $hhll` (R165, R111). -/
  | jmpAbs (hhll : Word)
  /-- `JMP ($hhll)` (R165, R115). -/
  | jmpInd (hhll : Word)
  /-- `JSR $hhll` (R166, R111). -/
  | jsr (hhll : Word)
  /-- `RTS` (R167, R105). -/
  | rts
  -- 45_stack_flag_system.md
  /-- `PHA` (R171, R105). -/
  | pha
  /-- `PHP` (R172, R105). -/
  | php
  /-- `PLA` (R173, R105). -/
  | pla
  /-- `PLP` (R174, R105). -/
  | plp
  /-- `CLC` (R175, R105). -/
  | clc
  /-- `SEC` (R176, R105). -/
  | sec
  /-- `CLI` (R177, R105). -/
  | cli
  /-- `SEI` (R178, R105). -/
  | sei
  /-- `CLD` (R179, R105). -/
  | cld
  /-- `SED` (R180, R105). -/
  | sed
  /-- `CLV` (R181, R105). -/
  | clv
  /-- `NOP` (R182, R105). -/
  | nop
  /-- `BRK` (R183, R105). -/
  | brk
  /-- `RTI` (R184, R105). -/
  | rti
  deriving DecidableEq, Repr

end Sys2Proof
end

