-- ==== Sys2Proof/WellFormed.lean ====
section
/-! DEFINITION. When a string of bytes is the encoding of one instruction (R93, R94, R98), read from the list of empty
opcode bytes and the lengths alone, apart from the decoder. Every term of Instr is well formed as it stands: an operand is
typed as the byte or word its format carries, and no operand value is reserved (R100), so there is no check on a term. -/

namespace Sys2Proof

/-- The 105 empty bytes of the opcode map, as R98 lists them. -/
def illegalOpcodes : List Byte :=
  [0x02, 0x03, 0x04, 0x07, 0x0B, 0x0C, 0x0F, 0x12, 0x13, 0x14, 0x17, 0x1A, 0x1B, 0x1C, 0x1F, 0x22, 0x23, 0x27, 0x2B, 0x2F, 0x32] ++
  [0x33, 0x34, 0x37, 0x3A, 0x3B, 0x3C, 0x3F, 0x42, 0x43, 0x44, 0x47, 0x4B, 0x4F, 0x52, 0x53, 0x54, 0x57, 0x5A, 0x5B, 0x5C, 0x5F] ++
  [0x62, 0x63, 0x64, 0x67, 0x6B, 0x6F, 0x72, 0x73, 0x74, 0x77, 0x7A, 0x7B, 0x7C, 0x7F, 0x80, 0x82, 0x83, 0x87, 0x89, 0x8B, 0x8F] ++
  [0x92, 0x93, 0x97, 0x9B, 0x9C, 0x9E, 0x9F, 0xA3, 0xA7, 0xAB, 0xAF, 0xB2, 0xB3, 0xB7, 0xBB, 0xBF, 0xC2, 0xC3, 0xC7, 0xCB, 0xCF] ++
  [0xD2, 0xD3, 0xD4, 0xD7, 0xDA, 0xDB, 0xDC, 0xDF, 0xE2, 0xE3, 0xE7, 0xEB, 0xEF, 0xF2, 0xF3, 0xF4, 0xF7, 0xFA, 0xFB, 0xFC, 0xFF]

/-- How many operand bytes follow a legal opcode byte (R94), read off the columns of the map of R97 (DEDUCED, safe:
it is compared with the decoder and drives no step). -/
def operandBytesByColumn (op : Byte) : Nat :=
  let col := op.toNat % 16
  let row := op.toNat / 16
  if col = 0 then
    if row = 2 then 2 else if row % 2 = 1 ∨ row = 0xA ∨ row = 0xC ∨ row = 0xE then 1 else 0
  else if col = 8 ∨ col = 0xA then 0
  else if col = 9 then (if row % 2 = 1 then 2 else 1)
  else if col = 0xC ∨ col = 0xD ∨ col = 0xE then 2
  else 1

/-- The bytes are an opcode byte that is not empty, followed by exactly the operand bytes of its mode (R93, R94, R98). -/
def encodingWf (bytes : List Byte) : Bool :=
  match bytes with
  | [] => false
  | op :: operands => !illegalOpcodes.contains op && operands.length == operandBytesByColumn op

end Sys2Proof
end

