-- ==== Sys2Proof/Decode.lean ====
section
/-! DEFINITION. The byte order of operands, the dispatch table, the decoder and the encoder (30_encoding.md). -/

namespace Sys2Proof

/-- `hi ++ lo`, the u16 of two bytes (R8). -/
def wordOf (hi lo : Byte) : Word := hi ++ lo

/-- Bits 7..0 of a word (R8). -/
def lowByte (w : Word) : Byte := w.setWidth 8

/-- Bits 15..8 of a word (R8). -/
def highByte (w : Word) : Byte := (w >>> 8).setWidth 8

/-- An entry of the dispatch table: the instruction of the opcode byte in its format (R93). -/
inductive Format where
  /-- `op`: no operand byte. -/
  | f1 (i : Instr)
  /-- `op nn`: one operand byte. -/
  | f2 (mk : Byte → Instr)
  /-- `op ll hh`: a word, low byte first. -/
  | f3 (mk : Word → Instr)

/-- How many operand bytes a format has (R93). -/
def Format.operandBytes : Format → Nat
  | .f1 _ => 0
  | .f2 _ => 1
  | .f3 _ => 2

/-- The instruction of a format and the bytes after its opcode byte, with the bytes left over (R93, R95). -/
def Format.assemble (f : Format) (bytes : List Byte) : Option (Instr × List Byte) :=
  match f, bytes with
  | .f1 i, rest => some (i, rest)
  | .f2 mk, nn :: rest => some (mk nn, rest)
  | .f3 mk, ll :: hh :: rest => some (mk (wordOf hh ll), rest)
  | _, _ => none

/-- Row 0x of the opcode map (R97). -/
def opcodeRow0 : List (Option Format) :=
  [some (.f1 .brk), some (.f2 .oraIndx), none, none,
   none, some (.f2 .oraZp), some (.f2 .aslZp), none,
   some (.f1 .php), some (.f2 .oraImm), some (.f1 .aslAcc), none,
   none, some (.f3 .oraAbs), some (.f3 .aslAbs), none]

/-- Row 1x of the opcode map (R97). -/
def opcodeRow1 : List (Option Format) :=
  [some (.f2 .bpl), some (.f2 .oraIndy), none, none,
   none, some (.f2 .oraZpx), some (.f2 .aslZpx), none,
   some (.f1 .clc), some (.f3 .oraAbsy), none, none,
   none, some (.f3 .oraAbsx), some (.f3 .aslAbsx), none]

/-- Row 2x of the opcode map (R97). -/
def opcodeRow2 : List (Option Format) :=
  [some (.f3 .jsr), some (.f2 .andIndx), none, none,
   some (.f2 .bitZp), some (.f2 .andZp), some (.f2 .rolZp), none,
   some (.f1 .plp), some (.f2 .andImm), some (.f1 .rolAcc), none,
   some (.f3 .bitAbs), some (.f3 .andAbs), some (.f3 .rolAbs), none]

/-- Row 3x of the opcode map (R97). -/
def opcodeRow3 : List (Option Format) :=
  [some (.f2 .bmi), some (.f2 .andIndy), none, none,
   none, some (.f2 .andZpx), some (.f2 .rolZpx), none,
   some (.f1 .sec), some (.f3 .andAbsy), none, none,
   none, some (.f3 .andAbsx), some (.f3 .rolAbsx), none]

/-- Row 4x of the opcode map (R97). -/
def opcodeRow4 : List (Option Format) :=
  [some (.f1 .rti), some (.f2 .eorIndx), none, none,
   none, some (.f2 .eorZp), some (.f2 .lsrZp), none,
   some (.f1 .pha), some (.f2 .eorImm), some (.f1 .lsrAcc), none,
   some (.f3 .jmpAbs), some (.f3 .eorAbs), some (.f3 .lsrAbs), none]

/-- Row 5x of the opcode map (R97). -/
def opcodeRow5 : List (Option Format) :=
  [some (.f2 .bvc), some (.f2 .eorIndy), none, none,
   none, some (.f2 .eorZpx), some (.f2 .lsrZpx), none,
   some (.f1 .cli), some (.f3 .eorAbsy), none, none,
   none, some (.f3 .eorAbsx), some (.f3 .lsrAbsx), none]

/-- Row 6x of the opcode map (R97). -/
def opcodeRow6 : List (Option Format) :=
  [some (.f1 .rts), some (.f2 .adcIndx), none, none,
   none, some (.f2 .adcZp), some (.f2 .rorZp), none,
   some (.f1 .pla), some (.f2 .adcImm), some (.f1 .rorAcc), none,
   some (.f3 .jmpInd), some (.f3 .adcAbs), some (.f3 .rorAbs), none]

/-- Row 7x of the opcode map (R97). -/
def opcodeRow7 : List (Option Format) :=
  [some (.f2 .bvs), some (.f2 .adcIndy), none, none,
   none, some (.f2 .adcZpx), some (.f2 .rorZpx), none,
   some (.f1 .sei), some (.f3 .adcAbsy), none, none,
   none, some (.f3 .adcAbsx), some (.f3 .rorAbsx), none]

/-- Row 8x of the opcode map (R97). -/
def opcodeRow8 : List (Option Format) :=
  [none, some (.f2 .staIndx), none, none,
   some (.f2 .styZp), some (.f2 .staZp), some (.f2 .stxZp), none,
   some (.f1 .dey), none, some (.f1 .txa), none,
   some (.f3 .styAbs), some (.f3 .staAbs), some (.f3 .stxAbs), none]

/-- Row 9x of the opcode map (R97). -/
def opcodeRow9 : List (Option Format) :=
  [some (.f2 .bcc), some (.f2 .staIndy), none, none,
   some (.f2 .styZpx), some (.f2 .staZpx), some (.f2 .stxZpy), none,
   some (.f1 .tya), some (.f3 .staAbsy), some (.f1 .txs), none,
   none, some (.f3 .staAbsx), none, none]

/-- Row Ax of the opcode map (R97). -/
def opcodeRowA : List (Option Format) :=
  [some (.f2 .ldyImm), some (.f2 .ldaIndx), some (.f2 .ldxImm), none,
   some (.f2 .ldyZp), some (.f2 .ldaZp), some (.f2 .ldxZp), none,
   some (.f1 .tay), some (.f2 .ldaImm), some (.f1 .tax), none,
   some (.f3 .ldyAbs), some (.f3 .ldaAbs), some (.f3 .ldxAbs), none]

/-- Row Bx of the opcode map (R97). -/
def opcodeRowB : List (Option Format) :=
  [some (.f2 .bcs), some (.f2 .ldaIndy), none, none,
   some (.f2 .ldyZpx), some (.f2 .ldaZpx), some (.f2 .ldxZpy), none,
   some (.f1 .clv), some (.f3 .ldaAbsy), some (.f1 .tsx), none,
   some (.f3 .ldyAbsx), some (.f3 .ldaAbsx), some (.f3 .ldxAbsy), none]

/-- Row Cx of the opcode map (R97). -/
def opcodeRowC : List (Option Format) :=
  [some (.f2 .cpyImm), some (.f2 .cmpIndx), none, none,
   some (.f2 .cpyZp), some (.f2 .cmpZp), some (.f2 .decZp), none,
   some (.f1 .iny), some (.f2 .cmpImm), some (.f1 .dex), none,
   some (.f3 .cpyAbs), some (.f3 .cmpAbs), some (.f3 .decAbs), none]

/-- Row Dx of the opcode map (R97). -/
def opcodeRowD : List (Option Format) :=
  [some (.f2 .bne), some (.f2 .cmpIndy), none, none,
   none, some (.f2 .cmpZpx), some (.f2 .decZpx), none,
   some (.f1 .cld), some (.f3 .cmpAbsy), none, none,
   none, some (.f3 .cmpAbsx), some (.f3 .decAbsx), none]

/-- Row Ex of the opcode map (R97). -/
def opcodeRowE : List (Option Format) :=
  [some (.f2 .cpxImm), some (.f2 .sbcIndx), none, none,
   some (.f2 .cpxZp), some (.f2 .sbcZp), some (.f2 .incZp), none,
   some (.f1 .inx), some (.f2 .sbcImm), some (.f1 .nop), none,
   some (.f3 .cpxAbs), some (.f3 .sbcAbs), some (.f3 .incAbs), none]

/-- Row Fx of the opcode map (R97). -/
def opcodeRowF : List (Option Format) :=
  [some (.f2 .beq), some (.f2 .sbcIndy), none, none,
   none, some (.f2 .sbcZpx), some (.f2 .incZpx), none,
   some (.f1 .sed), some (.f3 .sbcAbsy), none, none,
   none, some (.f3 .sbcAbsx), some (.f3 .incAbsx), none]

/-- The row of the opcode map that the high nibble of the opcode byte selects (R97). -/
def opcodeRow (hi : Nat) : List (Option Format) :=
  match hi with
  | 0 => opcodeRow0
  | 1 => opcodeRow1
  | 2 => opcodeRow2
  | 3 => opcodeRow3
  | 4 => opcodeRow4
  | 5 => opcodeRow5
  | 6 => opcodeRow6
  | 7 => opcodeRow7
  | 8 => opcodeRow8
  | 9 => opcodeRow9
  | 10 => opcodeRowA
  | 11 => opcodeRowB
  | 12 => opcodeRowC
  | 13 => opcodeRowD
  | 14 => opcodeRowE
  | _ => opcodeRowF

/-- The lookup of the whole opcode byte in the dispatch table; `none` is an empty entry (R96, R98). -/
def dispatchEntry (op : Byte) : Option Format :=
  ((opcodeRow (op.toNat / 16))[op.toNat % 16]?).join

/-- The first instruction of a string of bytes and the bytes left over: `none` when the opcode byte has no entry
(`UnknownOpcode`, R98) or when operand bytes are missing. It looks at no byte after the instruction (R94). -/
def decode (bytes : List Byte) : Option (Instr × List Byte) :=
  match bytes with
  | [] => none
  | op :: rest => (dispatchEntry op).bind (·.assemble rest)

/-- The bytes of an instruction, in address order (R93, R97; the opcode bytes as each instruction's rule gives them). -/
def encode (i : Instr) : List Byte :=
  match i with
  | .brk => [0x00]
  | .oraIndx nn => [0x01, nn]
  | .oraZp nn => [0x05, nn]
  | .aslZp nn => [0x06, nn]
  | .php => [0x08]
  | .oraImm nn => [0x09, nn]
  | .aslAcc => [0x0A]
  | .oraAbs hhll => [0x0D, lowByte hhll, highByte hhll]
  | .aslAbs hhll => [0x0E, lowByte hhll, highByte hhll]
  | .bpl nn => [0x10, nn]
  | .oraIndy nn => [0x11, nn]
  | .oraZpx nn => [0x15, nn]
  | .aslZpx nn => [0x16, nn]
  | .clc => [0x18]
  | .oraAbsy hhll => [0x19, lowByte hhll, highByte hhll]
  | .oraAbsx hhll => [0x1D, lowByte hhll, highByte hhll]
  | .aslAbsx hhll => [0x1E, lowByte hhll, highByte hhll]
  | .jsr hhll => [0x20, lowByte hhll, highByte hhll]
  | .andIndx nn => [0x21, nn]
  | .bitZp nn => [0x24, nn]
  | .andZp nn => [0x25, nn]
  | .rolZp nn => [0x26, nn]
  | .plp => [0x28]
  | .andImm nn => [0x29, nn]
  | .rolAcc => [0x2A]
  | .bitAbs hhll => [0x2C, lowByte hhll, highByte hhll]
  | .andAbs hhll => [0x2D, lowByte hhll, highByte hhll]
  | .rolAbs hhll => [0x2E, lowByte hhll, highByte hhll]
  | .bmi nn => [0x30, nn]
  | .andIndy nn => [0x31, nn]
  | .andZpx nn => [0x35, nn]
  | .rolZpx nn => [0x36, nn]
  | .sec => [0x38]
  | .andAbsy hhll => [0x39, lowByte hhll, highByte hhll]
  | .andAbsx hhll => [0x3D, lowByte hhll, highByte hhll]
  | .rolAbsx hhll => [0x3E, lowByte hhll, highByte hhll]
  | .rti => [0x40]
  | .eorIndx nn => [0x41, nn]
  | .eorZp nn => [0x45, nn]
  | .lsrZp nn => [0x46, nn]
  | .pha => [0x48]
  | .eorImm nn => [0x49, nn]
  | .lsrAcc => [0x4A]
  | .jmpAbs hhll => [0x4C, lowByte hhll, highByte hhll]
  | .eorAbs hhll => [0x4D, lowByte hhll, highByte hhll]
  | .lsrAbs hhll => [0x4E, lowByte hhll, highByte hhll]
  | .bvc nn => [0x50, nn]
  | .eorIndy nn => [0x51, nn]
  | .eorZpx nn => [0x55, nn]
  | .lsrZpx nn => [0x56, nn]
  | .cli => [0x58]
  | .eorAbsy hhll => [0x59, lowByte hhll, highByte hhll]
  | .eorAbsx hhll => [0x5D, lowByte hhll, highByte hhll]
  | .lsrAbsx hhll => [0x5E, lowByte hhll, highByte hhll]
  | .rts => [0x60]
  | .adcIndx nn => [0x61, nn]
  | .adcZp nn => [0x65, nn]
  | .rorZp nn => [0x66, nn]
  | .pla => [0x68]
  | .adcImm nn => [0x69, nn]
  | .rorAcc => [0x6A]
  | .jmpInd hhll => [0x6C, lowByte hhll, highByte hhll]
  | .adcAbs hhll => [0x6D, lowByte hhll, highByte hhll]
  | .rorAbs hhll => [0x6E, lowByte hhll, highByte hhll]
  | .bvs nn => [0x70, nn]
  | .adcIndy nn => [0x71, nn]
  | .adcZpx nn => [0x75, nn]
  | .rorZpx nn => [0x76, nn]
  | .sei => [0x78]
  | .adcAbsy hhll => [0x79, lowByte hhll, highByte hhll]
  | .adcAbsx hhll => [0x7D, lowByte hhll, highByte hhll]
  | .rorAbsx hhll => [0x7E, lowByte hhll, highByte hhll]
  | .staIndx nn => [0x81, nn]
  | .styZp nn => [0x84, nn]
  | .staZp nn => [0x85, nn]
  | .stxZp nn => [0x86, nn]
  | .dey => [0x88]
  | .txa => [0x8A]
  | .styAbs hhll => [0x8C, lowByte hhll, highByte hhll]
  | .staAbs hhll => [0x8D, lowByte hhll, highByte hhll]
  | .stxAbs hhll => [0x8E, lowByte hhll, highByte hhll]
  | .bcc nn => [0x90, nn]
  | .staIndy nn => [0x91, nn]
  | .styZpx nn => [0x94, nn]
  | .staZpx nn => [0x95, nn]
  | .stxZpy nn => [0x96, nn]
  | .tya => [0x98]
  | .staAbsy hhll => [0x99, lowByte hhll, highByte hhll]
  | .txs => [0x9A]
  | .staAbsx hhll => [0x9D, lowByte hhll, highByte hhll]
  | .ldyImm nn => [0xA0, nn]
  | .ldaIndx nn => [0xA1, nn]
  | .ldxImm nn => [0xA2, nn]
  | .ldyZp nn => [0xA4, nn]
  | .ldaZp nn => [0xA5, nn]
  | .ldxZp nn => [0xA6, nn]
  | .tay => [0xA8]
  | .ldaImm nn => [0xA9, nn]
  | .tax => [0xAA]
  | .ldyAbs hhll => [0xAC, lowByte hhll, highByte hhll]
  | .ldaAbs hhll => [0xAD, lowByte hhll, highByte hhll]
  | .ldxAbs hhll => [0xAE, lowByte hhll, highByte hhll]
  | .bcs nn => [0xB0, nn]
  | .ldaIndy nn => [0xB1, nn]
  | .ldyZpx nn => [0xB4, nn]
  | .ldaZpx nn => [0xB5, nn]
  | .ldxZpy nn => [0xB6, nn]
  | .clv => [0xB8]
  | .ldaAbsy hhll => [0xB9, lowByte hhll, highByte hhll]
  | .tsx => [0xBA]
  | .ldyAbsx hhll => [0xBC, lowByte hhll, highByte hhll]
  | .ldaAbsx hhll => [0xBD, lowByte hhll, highByte hhll]
  | .ldxAbsy hhll => [0xBE, lowByte hhll, highByte hhll]
  | .cpyImm nn => [0xC0, nn]
  | .cmpIndx nn => [0xC1, nn]
  | .cpyZp nn => [0xC4, nn]
  | .cmpZp nn => [0xC5, nn]
  | .decZp nn => [0xC6, nn]
  | .iny => [0xC8]
  | .cmpImm nn => [0xC9, nn]
  | .dex => [0xCA]
  | .cpyAbs hhll => [0xCC, lowByte hhll, highByte hhll]
  | .cmpAbs hhll => [0xCD, lowByte hhll, highByte hhll]
  | .decAbs hhll => [0xCE, lowByte hhll, highByte hhll]
  | .bne nn => [0xD0, nn]
  | .cmpIndy nn => [0xD1, nn]
  | .cmpZpx nn => [0xD5, nn]
  | .decZpx nn => [0xD6, nn]
  | .cld => [0xD8]
  | .cmpAbsy hhll => [0xD9, lowByte hhll, highByte hhll]
  | .cmpAbsx hhll => [0xDD, lowByte hhll, highByte hhll]
  | .decAbsx hhll => [0xDE, lowByte hhll, highByte hhll]
  | .cpxImm nn => [0xE0, nn]
  | .sbcIndx nn => [0xE1, nn]
  | .cpxZp nn => [0xE4, nn]
  | .sbcZp nn => [0xE5, nn]
  | .incZp nn => [0xE6, nn]
  | .inx => [0xE8]
  | .sbcImm nn => [0xE9, nn]
  | .nop => [0xEA]
  | .cpxAbs hhll => [0xEC, lowByte hhll, highByte hhll]
  | .sbcAbs hhll => [0xED, lowByte hhll, highByte hhll]
  | .incAbs hhll => [0xEE, lowByte hhll, highByte hhll]
  | .beq nn => [0xF0, nn]
  | .sbcIndy nn => [0xF1, nn]
  | .sbcZpx nn => [0xF5, nn]
  | .incZpx nn => [0xF6, nn]
  | .sed => [0xF8]
  | .sbcAbsy hhll => [0xF9, lowByte hhll, highByte hhll]
  | .sbcAbsx hhll => [0xFD, lowByte hhll, highByte hhll]
  | .incAbsx hhll => [0xFE, lowByte hhll, highByte hhll]

/-- The opcode byte of an instruction (R93). -/
def opcodeOf (i : Instr) : Byte := (encode i).headD 0

/-- The byte `k` of an instruction whose low `nbits` bits are given as a number, bit 0 the least significant bit of the
first byte; the bits above `nbits` are 0. -/
def tableByte (nbits w k : Nat) : Byte := BitVec.ofNat 8 ((w % 2 ^ nbits) >>> (8 * k))

/-- The instruction the decoder reads from a word of spec/opcode_table.json (three bytes: the longest instruction). -/
def decodeTableWord (nbits w : Nat) : Option Instr :=
  (decode [tableByte nbits w 0, tableByte nbits w 1, tableByte nbits w 2]).map Prod.fst

end Sys2Proof
end

