-- ==== Sys2Proof/Machine/Mem.lean ====
section
/-! DEFINITION. A store of cells (RAM, a ROM image, the colour RAM): a list of (address, value) pairs in one canonical
form, addresses strictly rising and no value equal to what an unlisted address reads as. -/

namespace Sys2Proof.Machine

/-- A store of `w`-bit cells. A store of bytes is a list of `Host.Cell`. -/
abbrev Store (w : Nat) := List (Nat × BitVec w)

/-- What an address that is not listed reads as. DESIGN CHOICE, unsafe for the power-on contents (log entry 5). -/
def unlistedValue (w : Nat) : BitVec w := 0

/-- The value of the cell `a`. -/
def Store.read {w : Nat} (m : Store w) (a : Nat) : BitVec w :=
  match m with
  | [] => unlistedValue w
  | (k, v) :: rest => if k = a then v else Store.read rest a

/-- The entry that lists `v` at `a` before `rest`, or no entry when `v` is what an unlisted address reads as. -/
def Store.cons {w : Nat} (a : Nat) (v : BitVec w) (rest : Store w) : Store w :=
  if v = unlistedValue w then rest else (a, v) :: rest

/-- The store with `v` in the cell `a` and every other cell as it was. -/
def Store.write {w : Nat} (m : Store w) (a : Nat) (v : BitVec w) : Store w :=
  match m with
  | [] => Store.cons a v []
  | (k, u) :: rest =>
    if k < a then (k, u) :: Store.write rest a v
    else if k = a then Store.cons a v rest
    else Store.cons a v ((k, u) :: rest)

/-- Canonical from address `lo` on: addresses rise strictly from `lo`, stay below `size`, no listed value is the
unlisted one. -/
def Store.wfFrom {w : Nat} (lo size : Nat) (m : Store w) : Bool :=
  match m with
  | [] => true
  | (k, v) :: rest =>
    decide (lo ≤ k) && decide (k < size) && decide (v ≠ unlistedValue w) && Store.wfFrom (k + 1) size rest

/-- The canonical form of a store of `size` cells. -/
def Store.wf {w : Nat} (size : Nat) (m : Store w) : Bool := Store.wfFrom 0 size m

/-- The store whose cells from `a` on hold the given values, in order. -/
def Store.ofValuesFrom {w : Nat} (a : Nat) (vs : List (BitVec w)) : Store w :=
  match vs with
  | [] => []
  | v :: rest => Store.cons a v (Store.ofValuesFrom (a + 1) rest)

/-- Loading a ROM image: it must have exactly `size` bytes, else there is no machine (R214). -/
def Store.loadRom (size : Nat) (bytes : List Byte) : Option (Store 8) :=
  if bytes.length = size then some (Store.ofValuesFrom 0 bytes) else none

end Sys2Proof.Machine
end

