-- ==== Sys2Proof/Machine/Bus.lean ====
section
/-! DEFINITION. The bus: the processor port, the memories, the I/O register files and the router that sends each
address to one backing cell (20_memory.md). -/

namespace Sys2Proof.Machine

/-- A timer/serial chip: 16 live registers and 4 write-only alarm shadows (R44). -/
structure TimerChip where
  regs  : Vector Byte 16
  alarm : Vector Byte 4
  deriving DecidableEq, Repr

/-- The state behind the bus (R36, R37, R39 to R44). -/
structure Bus where
  /-- DDR, the processor port's data-direction register at $00 (R36). -/
  ddr       : Byte
  /-- PORT, the stored processor-port value at $01 (R37). -/
  port      : Byte
  /-- RAM, 65536 cells (R39). -/
  ram       : Store 8
  /-- CHAR_ROM, 4096 cells (R40). -/
  charRom   : Store 8
  /-- BASIC_ROM, 8192 cells (R40). -/
  basicRom  : Store 8
  /-- KERNAL_ROM, 8192 cells (R40). -/
  kernalRom : Store 8
  /-- COLOR, 1000 cells of 4 bits (R41). -/
  color     : Store 4
  /-- VID, the video register file (R42). -/
  vid       : Vector Byte 64
  /-- RLATCH, the raster-compare latch (R42). -/
  rlatch    : BitVec 9
  /-- SND, the sound register file (R43). -/
  snd       : Vector Byte 32
  /-- TC1, timer chip #1 (R44). -/
  tc1       : TimerChip
  /-- TC2, timer chip #2 (R44). -/
  tc2       : TimerChip
  deriving DecidableEq, Repr

/-- BANK.A, what $A000-$BFFF shows (R38). -/
inductive BankA where
  | ram | basic
  deriving DecidableEq, Repr

/-- BANK.D, what $D000-$DFFF shows (R38). -/
inductive BankD where
  | ram | char | io
  deriving DecidableEq, Repr

/-- BANK.E, what $E000-$FFFF shows (R38). -/
inductive BankE where
  | ram | kernal
  deriving DecidableEq, Repr

/-- BANK, the bank state (R38). -/
structure Bank where
  a : BankA
  d : BankD
  e : BankE
  deriving DecidableEq, Repr

/-- `BankOf(m)`, the table of R54. -/
def bankOf (m : BitVec 3) : Bank :=
  match m.toNat with
  | 0 => { a := .ram,   d := .ram,  e := .ram }
  | 1 => { a := .ram,   d := .char, e := .ram }
  | 2 => { a := .ram,   d := .char, e := .kernal }
  | 3 => { a := .basic, d := .char, e := .kernal }
  | 4 => { a := .ram,   d := .ram,  e := .ram }
  | 5 => { a := .ram,   d := .io,   e := .ram }
  | 6 => { a := .ram,   d := .io,   e := .kernal }
  | _ => { a := .basic, d := .io,   e := .kernal }

/-- BANK at every moment: `BankOf(PORT[2:0])` (R38, D35; log entry 13). -/
def Bus.bank (b : Bus) : Bank := bankOf (b.port.setWidth 3)

/-- The one cell that answers an address (R53). -/
inductive Backing where
  | ddr
  | port
  | ram (a : Nat)
  | charRom (offset : Nat)
  | basicRom (offset : Nat)
  | kernalRom (offset : Nat)
  | vid (o : BitVec 6)
  | snd (o : BitVec 5)
  | color (c : Nat)
  | tc1 (r : BitVec 4)
  | tc2 (r : BitVec 4)
  /-- The two expansion pages: reads are 0, writes are discarded (R83). -/
  | expansion
  deriving DecidableEq, Repr

/-- The I/O sub-decode of an address in $D000-$DFFF by `addr[11:8]` (R68, R75 to R78, R83). -/
def ioCell (addr : Word) : Backing :=
  let n := (addr.toNat / 256) % 16
  if n ≤ 0x3 then .vid (addr.setWidth 6)
  else if n ≤ 0x7 then .snd (addr.setWidth 5)
  else if n ≤ 0xB then
    (if addr.toNat - 0xD800 < 1000 then .color (addr.toNat - 0xD800) else .ram addr.toNat)
  else if n = 0xC then .tc1 (addr.setWidth 4)
  else if n = 0xD then .tc2 (addr.setWidth 4)
  else .expansion

/-- The cell a bus read of `addr` reads (R53, R55). -/
def readCell (bank : Bank) (addr : Word) : Backing :=
  let n := addr.toNat
  if n = 0x0000 then .ddr
  else if n = 0x0001 then .port
  else if 0xA000 ≤ n ∧ n ≤ 0xBFFF then
    match bank.a with
    | .basic => .basicRom (n - 0xA000)
    | .ram => .ram n
  else if 0xD000 ≤ n ∧ n ≤ 0xDFFF then
    match bank.d with
    | .ram => .ram n
    | .char => .charRom (n - 0xD000)
    | .io => ioCell addr
  else if 0xE000 ≤ n then
    match bank.e with
    | .kernal => .kernalRom (n - 0xE000)
    | .ram => .ram n
  else .ram n

/-- The cell a bus write of `addr` writes: RAM wherever the window shows RAM or ROM (R53, R56). -/
def writeCell (bank : Bank) (addr : Word) : Backing :=
  let n := addr.toNat
  if n = 0x0000 then .ddr
  else if n = 0x0001 then .port
  else if 0xD000 ≤ n ∧ n ≤ 0xDFFF ∧ bank.d = .io then ioCell addr
  else .ram n

/-- `VidRead(o)`: the stored register, but for offset 0x12, whose read is the draw (R69). -/
def Bus.vidRead (b : Bus) (draw : Byte) (o : BitVec 6) : Byte :=
  if o.toNat = 0x12 then draw else b.vid[o.toNat]'o.isLt

/-- `VidWrite(o, v)` (R70 to R73). -/
def Bus.vidWrite (b : Bus) (o : BitVec 6) (v : Byte) : Bus :=
  if o.toNat = 0x11 then
    { b with
      vid := b.vid.set o.toNat (v &&& 0x7F) o.isLt
      rlatch := BitVec.ofBool (v.getLsbD 7) ++ b.rlatch.setWidth 8 }
  else if o.toNat = 0x12 then
    { b with rlatch := BitVec.ofBool (b.rlatch.getLsbD 8) ++ v }
  else if o.toNat = 0x19 ∨ o.toNat = 0x1E ∨ o.toNat = 0x1F then b
  else { b with vid := b.vid.set o.toNat v o.isLt }

/-- A register of a timer chip (R82). -/
def TimerChip.read (t : TimerChip) (r : BitVec 4) : Byte := t.regs[r.toNat]'r.isLt

/-- Storing a register of a timer chip verbatim (R81). -/
def TimerChip.store (t : TimerChip) (r : BitVec 4) (v : Byte) : TimerChip :=
  { t with regs := t.regs.set r.toNat v r.isLt }

/-- `TcWrite(T, r, v)`: the ports are masked by their data-direction registers, a time-of-day write goes to the alarm
shadow when bit 7 of register 0x0F is set, every other register is stored (R79 to R81). -/
def TimerChip.write (t : TimerChip) (r : BitVec 4) (v : Byte) : TimerChip :=
  if r.toNat ≤ 1 then t.store r (v &&& t.read (r + 2))
  else if 8 ≤ r.toNat ∧ r.toNat ≤ 11 then
    (if (t.read 0x0F).getLsbD 7 then
      { t with alarm := t.alarm.set (r.setWidth 2).toNat v (r.setWidth 2).isLt }
    else t.store r v)
  else t.store r v

/-- The value in a cell; `draw` is what a read of video offset 0x12 gives (R55, R57, R69, R74, R75, R82, R83). -/
def Bus.readAt (b : Bus) (draw : Byte) (cell : Backing) : Byte :=
  match cell with
  | .ddr => b.ddr
  | .port => b.port
  | .ram a => b.ram.read a
  | .charRom o => b.charRom.read o
  | .basicRom o => b.basicRom.read o
  | .kernalRom o => b.kernalRom.read o
  | .vid o => b.vidRead draw o
  | .snd o => b.snd[o.toNat]'o.isLt
  | .color c => (b.color.read c).setWidth 8
  | .tc1 r => b.tc1.read r
  | .tc2 r => b.tc2.read r
  | .expansion => 0

/-- The bus after `v` is written to a cell (R56, R58, R59, R70 to R83). No write goes to a ROM cell: `writeCell` names
none, and the ROM images never change (R40). -/
def Bus.writeAt (b : Bus) (cell : Backing) (v : Byte) : Bus :=
  match cell with
  | .ddr => { b with ddr := v }
  | .port => { b with port := v &&& b.ddr }
  | .ram a => { b with ram := b.ram.write a v }
  | .charRom _ => b
  | .basicRom _ => b
  | .kernalRom _ => b
  | .vid o => b.vidWrite o v
  | .snd o => { b with snd := b.snd.set o.toNat v o.isLt }
  | .color c => { b with color := b.color.write c (v.setWidth 4) }
  | .tc1 r => { b with tc1 := b.tc1.write r v }
  | .tc2 r => { b with tc2 := b.tc2.write r v }
  | .expansion => b

/-- `BusRead(addr)` (R55); it changes no state (R85). -/
def Bus.read (b : Bus) (draw : Byte) (addr : Word) : Byte := b.readAt draw (readCell b.bank addr)

/-- `BusWrite(addr, v)` (R56). -/
def Bus.write (b : Bus) (addr : Word) (v : Byte) : Bus := b.writeAt (writeCell b.bank addr) v

/-- The bus with `v` put, from outside the machine, into the cell that answers a read of `addr`, past every write
rule: how a launch places a byte where a fetch will find it (R216; log entry 14). Nothing can be placed in the expansion
pages, at video offset 0x12, or in the high half of a colour cell. -/
def Bus.place (b : Bus) (addr : Word) (v : Byte) : Bus :=
  match readCell b.bank addr with
  | .ddr => { b with ddr := v }
  | .port => { b with port := v }
  | .ram a => { b with ram := b.ram.write a v }
  | .charRom o => { b with charRom := b.charRom.write o v }
  | .basicRom o => { b with basicRom := b.basicRom.write o v }
  | .kernalRom o => { b with kernalRom := b.kernalRom.write o v }
  | .vid o => { b with vid := b.vid.set o.toNat v o.isLt }
  | .snd o => { b with snd := b.snd.set o.toNat v o.isLt }
  | .color c => { b with color := b.color.write c (v.setWidth 4) }
  | .tc1 r => { b with tc1 := b.tc1.store r v }
  | .tc2 r => { b with tc2 := b.tc2.store r v }
  | .expansion => b

/-- The canonical form of the memories behind the bus: each store has its size and lists no unlisted value. -/
def Bus.wf (b : Bus) : Bool :=
  b.ram.wf 65536 && b.charRom.wf 4096 && b.basicRom.wf 8192 && b.kernalRom.wf 8192 && b.color.wf 1000

end Sys2Proof.Machine
end

