-- ==== Sys2Proof/Machine/State.lean ====
section
/-! DEFINITION. The whole state of the machine as plain data, its value at power-on, and the reasons a step stops
(10_state.md, 70_reset_and_hazards.md). -/

namespace Sys2Proof.Machine

/-- The closed set of fatal faults (R188). -/
inductive FaultKind where
  /-- Code 1: the opcode byte has no entry in the dispatch table (R192). -/
  | unknownOpcode
  /-- Code 2: BRK or RTI (R191). -/
  | unsupported
  /-- Code 3: a push with S = 0 (R193). -/
  | stackOverflow
  /-- Code 4: a pull with S = 0xFF (R194). -/
  | stackUnderflow
  deriving DecidableEq, Repr

/-- The code R188 gives a fault kind. -/
def FaultKind.code (k : FaultKind) : Nat :=
  match k with
  | .unknownOpcode => 1
  | .unsupported => 2
  | .stackOverflow => 3
  | .stackUnderflow => 4

/-- STATUS (R45): running, or stopped for good with the diagnostic of R190: the kind, the address of the opcode byte,
the opcode byte, and the instruction's ordinal number. -/
inductive Status where
  | running
  | faulted (kind : FaultKind) (pc : Word) (opcode : Byte) (n : Nat)
  deriving DecidableEq, Repr

/-- The state of the CORE. BANK is a function of PORT (R38; log entry 13). -/
structure State where
  /-- A, the accumulator (R19). -/
  a      : Byte
  /-- X, index register X (R20). -/
  x      : Byte
  /-- Y, index register Y (R21). -/
  y      : Byte
  /-- S, the stack pointer (R22). -/
  sp     : Byte
  /-- P, the status byte, every bit stored (R24, R25). -/
  p      : Byte
  /-- PC, the program counter (R23). -/
  pc     : Word
  /-- IC, the instruction counter (R34). -/
  ic     : Nat
  /-- CYC, the cycle counter, which no rule advances or reads (R35; log entry 12). -/
  cyc    : Nat
  /-- The processor port, the memories and the I/O register files (R36 to R44). -/
  bus    : Bus
  /-- STATUS (R45). -/
  status : Status
  /-- The implementation parameters of R7, which nothing writes (log entries 8, 9, 10). The MODEL's own field. -/
  params : Params
  /-- Numbers the draws of the read of video offset 0x12 (R69; log entry 11). The MODEL's own field. -/
  draws  : Nat
  deriving DecidableEq, Repr

/-- Why a step answers no next state. -/
inductive Fault where
  /-- Raised by `step` alone, in a state whose STATUS is Faulted: no step is enabled there (R190, 93 U4). It carries the
  diagnostic of that state. Safe: the spec stops here too. -/
  | halted (kind : FaultKind) (pc : Word) (opcode : Byte) (n : Nat)
  deriving DecidableEq, Repr

/-- Why an instruction has no meaning. -/
inductive Refusal where
  /-- An instruction rejected by name because the model has no meaning for it. Raised by an arm of `exec` only; no arm
  raises it in this model. Safe: nothing can be proved of a refused instruction. -/
  | notModelled (mnemonic : String)
  deriving DecidableEq, Repr

/-- What an instruction or a step answers. -/
abbrev Result := Host.Outcome State Fault Refusal

/-- What power-on takes (R7, R207): the ROM images, INIT_RAM, INIT_IO, RESET_DDR and RESET_PORT as the fields of `bus`;
RESET_A, RESET_X, RESET_Y; the implementation parameters; the unspecified CYC. -/
structure PowerOn where
  a      : Byte
  x      : Byte
  y      : Byte
  cyc    : Nat
  bus    : Bus
  params : Params
  deriving DecidableEq, Repr

/-- The constraints on what power-on takes: stores of their sizes, a masked port, and PORT[1] = 1 so that the KERNAL
image answers the vector read (R211, R214). -/
def PowerOn.wf (p : PowerOn) : Bool :=
  p.bus.wf && p.bus.port &&& ~~~p.bus.ddr == 0 && p.bus.port.getLsbD 1

/-- Power-on with the three ROM images as byte strings; `none`, no machine, when a size is wrong (R207, R214). -/
def PowerOn.withRoms (p : PowerOn) (char basic kernal : List Byte) : Option PowerOn :=
  match Store.loadRom 4096 char, Store.loadRom 8192 basic, Store.loadRom 8192 kernal with
  | some c, some b, some k => some { p with bus := { p.bus with charRom := c, basicRom := b, kernalRom := k } }
  | _, _, _ => none

/-- Power-on reset (R207, R208): PC is the little-endian word the bus reads at $FFFC, $FFFD. Neither address is a video
register, so the draw (0 here) is not looked at. -/
def State.powerOn (p : PowerOn) : State :=
  { a := p.a, x := p.x, y := p.y, sp := 0xFF, p := 0x00
    pc := wordOf (p.bus.read 0 0xFFFD) (p.bus.read 0 0xFFFC)
    ic := 0, cyc := p.cyc, bus := p.bus, status := .running, params := p.params, draws := 0 }

/-- A timer chip whose registers and shadows are 0 (DESIGN CHOICE, unsafe, log entry 6). -/
def TimerChip.zero : TimerChip := { regs := Vector.replicate 16 0, alarm := Vector.replicate 4 0 }

/-- The values State.reset takes for what the spec leaves to the launch: the simulator defaults DDR = 0x2F, PORT = 0x27
(R7, R211; log entry 4), memories and registers of 0 (log entries 3, 5, 6, 12), ROM images of 0 but the reset vector
00 C0 of test vector RS1 (log entry 7). DESIGN CHOICE, unsafe for a claim about the run from State.reset alone. -/
def PowerOn.simulator : PowerOn :=
  { a := 0, x := 0, y := 0, cyc := 0, params := Params.simulator
    bus :=
      { ddr := 0x2F, port := 0x27, ram := [], charRom := [], basicRom := [], kernalRom := [(0x1FFD, 0xC0)]
        color := [], vid := Vector.replicate 64 0, rlatch := 0, snd := Vector.replicate 32 0
        tc1 := TimerChip.zero, tc2 := TimerChip.zero } }

/-- The machine right after reset (R48, R207). -/
def State.reset : State := State.powerOn PowerOn.simulator

end Sys2Proof.Machine
end

