-- ==== Sys2Proof/Machine/Flags.lean ====
section
/-! DEFINITION. The flags of the status byte and every flag computation: SetNZ, Add, the shifts and rotates, BIT
(10_state.md section 2, 42_arith_logic.md section 1, 43_shift_rotate.md section 1). -/

namespace Sys2Proof.Machine

/-- The seven named flags (R24). -/
inductive Flag where
  | n | v | b | d | i | z | c
  deriving DecidableEq, Repr

/-- The bit of P that holds a flag (R25). -/
def Flag.bit (f : Flag) : Nat :=
  match f with
  | .n => 7
  | .v => 6
  | .b => 4
  | .d => 3
  | .i => 2
  | .z => 1
  | .c => 0

/-- The value of a flag in a status byte (R25). -/
def getFlag (p : Byte) (f : Flag) : Bool := p.getLsbD f.bit

/-- A status byte with one flag set to a value and every other bit as it was (R9, R25). -/
def setFlag (p : Byte) (f : Flag) (on : Bool) : Byte :=
  if on then p ||| 1#8 <<< f.bit else p &&& ~~~(1#8 <<< f.bit)

/-- `SetNZ(v)`: Z says that v is 0, N is bit 7 of v (R132). -/
def setNZ (p v : Byte) : Byte := setFlag (setFlag p .z (v == 0)) .n (v.getLsbD 7)

/-- The exact sum of `Add`: `r + o + cin`, 0 to 511 (R133). -/
def addSum (r o : Byte) (cin : Bool) : Nat := r.toNat + o.toNat + cin.toNat

/-- The truncated result of `Add` (R133). -/
def addResult (r o : Byte) (cin : Bool) : Byte := BitVec.ofNat 8 (addSum r o cin)

/-- N, Z and C after `Add`: C is bit 8 of the exact sum (R133). -/
def addNZC (p r o : Byte) (cin : Bool) : Byte :=
  setFlag (setNZ p (addResult r o cin)) .c ((addSum r o cin).testBit 8)

/-- The overflow of `Add`: the sign bit of `(r XOR res) AND (o XOR res)` (R133). -/
def addOverflow (r o : Byte) (cin : Bool) : Bool :=
  ((r ^^^ addResult r o cin) &&& (o ^^^ addResult r o cin)).getLsbD 7

/-- P after `Add` with `is_compare` false: N, Z, C and V (R133). -/
def addNZCV (p r o : Byte) (cin : Bool) : Byte := setFlag (addNZC p r o cin) .v (addOverflow r o cin)

/-- P after a comparison of `r` with the operand `m`: `Add(r, ~m, true)`, whose carry-in is 1 (R133, R136). -/
def compareFlags (p r m : Byte) : Byte := addNZC p r (~~~m) true

/-- P after BIT with accumulator `a` and operand `m`: Z from `a AND m`, N and V from `m` (R142). -/
def bitFlags (p a m : Byte) : Byte :=
  setFlag (setFlag (setFlag p .z ((a &&& m) == 0)) .n (m.getLsbD 7)) .v (m.getLsbD 6)

/-- The result of a read-modify-write operation and the status byte it leaves. -/
structure Modified where
  value : Byte
  p     : Byte
  deriving DecidableEq, Repr

/-- C takes the bit shifted out, N and Z follow the result (R151). -/
def shifted (p : Byte) (out : Bool) (r : Byte) : Modified := { value := r, p := setNZ (setFlag p .c out) r }

/-- `ShiftLeft(v)` (R151). -/
def shiftLeft (p v : Byte) : Modified := shifted p (v.getLsbD 7) (v <<< 1)

/-- `ShiftRight(v)` (R151). -/
def shiftRight (p v : Byte) : Modified := shifted p (v.getLsbD 0) (v >>> 1)

/-- `RotateLeft(v)`: the carry before the instruction enters at bit 0 (R151, D31). -/
def rotateLeft (p v : Byte) : Modified :=
  shifted p (v.getLsbD 7) (v <<< 1 ||| (BitVec.ofBool (getFlag p .c)).setWidth 8)

/-- `RotateRight(v)`: the carry before the instruction enters at bit 7 (R151, D31). -/
def rotateRight (p v : Byte) : Modified :=
  shifted p (v.getLsbD 0) (v >>> 1 ||| (BitVec.ofBool (getFlag p .c)).setWidth 8 <<< 7)

/-- The increment of INC, INX, INY: one more modulo 256, then SetNZ (R143, R145, R146). -/
def increment (p v : Byte) : Modified := { value := v + 1, p := setNZ p (v + 1) }

/-- The decrement of DEC, DEX, DEY: one less modulo 256, then SetNZ (R144, R147, R148). -/
def decrement (p v : Byte) : Modified := { value := v + 255, p := setNZ p (v + 255) }

end Sys2Proof.Machine
end

