-- ==== Sys2Proof/Machine/Ops.lean ====
section
/-! DEFINITION. The operations that instructions share: bus accesses, the fetch, register writes with their flags, the
stack, and raising a fatal fault (20_memory.md, 45_stack_flag_system.md section 1, 60_exceptions.md). -/

namespace Sys2Proof.Machine

/-- `MemRead(addr, 1)` as the access `k` of the current instruction (R10, R55); it changes no state (R85). -/
def State.read (s : State) (k : Access) (addr : Word) : Byte :=
  s.bus.read (Config.rasterLowRead s.draws k) addr

/-- `MemWrite(addr, 1, v)` (R10, R56). -/
def State.write (s : State) (addr : Word) (v : Byte) : State := { s with bus := s.bus.write addr v }

/-- The bytes of the instruction at PC: the opcode byte and as many operand bytes as its entry's format has, PC wrapping
modulo 65536; the opcode byte alone when it has no entry (R104, R118, R186, R192). -/
def State.fetchBytes (s : State) : List Byte :=
  let op := s.read .opcode s.pc
  match (dispatchEntry op).map Format.operandBytes with
  | none => [op]
  | some 0 => [op]
  | some 1 => [op, s.read .operand1 (s.pc + 1)]
  | some _ => [op, s.read .operand1 (s.pc + 1), s.read .operand2 (s.pc + 2)]

/-- The state after the fetch of an instruction of `len` bytes: PC after them, IC one more (R23, R34, R104, R186). The
draws of the next instruction are fresh ones. -/
def State.fetched (s : State) (len : Nat) : State :=
  { s with pc := s.pc + BitVec.ofNat 16 len, ic := s.ic + 1, draws := s.draws + 1 }

/-- `raise Fault(kind)` in the instruction whose opcode byte is `op`, `s` being the state before its fetch: everything
stays as it was and STATUS records the fault (R185, R189, R190). This is the whole of taking an exception on this
hardware, and nothing returns from it (R197, R198; log entry 2). -/
def State.raiseFault (s : State) (kind : FaultKind) (op : Byte) : State :=
  { s with status := .faulted kind s.pc op (s.ic + 1) }

/-- The end of an instruction that may fault: its result, or the fault it raises (R189, R190). -/
def State.orFault (s : State) (kind : FaultKind) (op : Byte) (result : Option State) : Result :=
  match result with
  | some t => .next t
  | none => .next (s.raiseFault kind op)

/-- `A <- v; SetNZ(v)` (R132). -/
def State.setA (s : State) (v : Byte) : State := { s with a := v, p := setNZ s.p v }

/-- `X <- v; SetNZ(v)` (R132). -/
def State.setX (s : State) (v : Byte) : State := { s with x := v, p := setNZ s.p v }

/-- `Y <- v; SetNZ(v)` (R132). -/
def State.setY (s : State) (v : Byte) : State := { s with y := v, p := setNZ s.p v }

/-- `Add(A, o, false)` (R133). -/
def State.addToA (s : State) (o : Byte) : State :=
  { s with
    a := addResult s.a o (getFlag s.p .c)
    p := addNZCV s.p s.a o (getFlag s.p .c) }

/-- The comparison of a register's value with an operand: only N, Z and C are written (R133, R136 to R138). -/
def State.compare (s : State) (r m : Byte) : State := { s with p := compareFlags s.p r m }

/-- `PC <- target` (R9). -/
def State.jump (s : State) (target : Word) : State := { s with pc := target }

/-- P with one flag written (R175 to R181). -/
def State.withFlag (s : State) (f : Flag) (on : Bool) : State := { s with p := setFlag s.p f on }

/-- The address of the stack byte that S names, `0x0100 + S` (R22). -/
def stackAddress (sp : Byte) : Word := wordOf 0x01 sp

/-- `Push(v)`: `none` is the overflow fault (R169). -/
def State.push (s : State) (v : Byte) : Option State :=
  if s.sp = 0x00 then none
  else some { s.write (stackAddress s.sp) v with sp := s.sp - 1 }

/-- `Pull()`: the state with S incremented and the byte read; `none` is the underflow fault (R170). -/
def State.pull (s : State) : Option (State × Byte) :=
  if s.sp = 0xFF then none
  else some ({ s with sp := s.sp + 1 }, s.read .stack (stackAddress (s.sp + 1)))

end Sys2Proof.Machine
end

