-- ==== Sys2Proof/Machine/Operands.lean ====
section
/-! DEFINITION. The addressing modes and the operand access forms (40_addressing.md). Implied, accumulator and immediate
operands have no effective address (R105, R106, R107); the other ten modes are below. -/

namespace Sys2Proof.Machine

/-- An operand in memory, with the operand bytes of its mode (R108 to R113, R116, R117). -/
inductive MemOperand where
  /-- zero page (R108) -/
  | zp (nn : Byte)
  /-- zero page,X (R109) -/
  | zpx (nn : Byte)
  /-- zero page,Y (R110) -/
  | zpy (nn : Byte)
  /-- absolute (R111) -/
  | abs (hhll : Word)
  /-- absolute,X (R112) -/
  | absx (hhll : Word)
  /-- absolute,Y (R113) -/
  | absy (hhll : Word)
  /-- indexed-indirect, `(zp,X)` (R116) -/
  | indx (nn : Byte)
  /-- indirect-indexed, `(zp),Y` (R117) -/
  | indy (nn : Byte)
  deriving DecidableEq, Repr

/-- `sext_16(v)` of a u8 (R8). -/
def sext16 (v : Byte) : Word := v.signExtend 16

/-- `zext_16(v)` of a u8 (R8). -/
def zext16 (v : Byte) : Word := v.setWidth 16

/-- The address of the high byte of a zero-page pointer at `z`: `z + 1`, in page 0 when `ZP_PTR_WRAP`, else $0100 after
$FF (R116, R117, D7). The parameter is looked at only when the two differ. -/
def zpPointerHigh (wrap : Bool) (z : Byte) : Word :=
  if z = 0xFF then (if wrap then 0x0000 else 0x0100) else zext16 z + 1

/-- The address of the high byte of the pointer of `JMP (ind)`: `ptr + 1`, in the pointer's page when
`JMP_IND_PAGE_WRAP` (R115, D6). The parameter is looked at only when the two differ. -/
def jmpPointerHigh (wrap : Bool) (ptr : Word) : Word :=
  if lowByte ptr = 0xFF then (if wrap then ptr &&& 0xFF00 else ptr + 1) else ptr + 1

/-- The 16-bit value at a pointer, its low byte at `lo` and its high byte at `hi`, read through the router (R49, R104). -/
def State.readPointer (s : State) (lo hi : Word) : Word :=
  wordOf (s.read .pointerHigh hi) (s.read .pointerLow lo)

/-- The word a zero-page pointer at `z` holds (R116, R117). -/
def State.zpPointer (s : State) (z : Byte) : Word :=
  s.readPointer (zext16 z) (zpPointerHigh s.params.zpPtrWrap z)

/-- The effective address of a memory operand (R108 to R113, R116, R117). -/
def State.ea (s : State) (m : MemOperand) : Word :=
  match m with
  | .zp nn => zext16 nn
  | .zpx nn => zext16 (nn + s.x)
  | .zpy nn => zext16 (nn + s.y)
  | .abs hhll => hhll
  | .absx hhll => hhll + zext16 s.x
  | .absy hhll => hhll + zext16 s.y
  | .indx nn => s.zpPointer (nn + s.x)
  | .indy nn => s.zpPointer nn + zext16 s.y

/-- The target of `JMP (hhll)` (R115). -/
def State.indirectTarget (s : State) (hhll : Word) : Word :=
  s.readPointer hhll (jmpPointerHigh s.params.jmpIndPageWrap hhll)

/-- The target of a branch whose operand is `off`, with PC after the operand fetch (R114). -/
def State.branchTarget (s : State) (off : Byte) : Word := s.pc + sext16 off

/-- `Load(mode)` of a memory operand (R119). -/
def State.load (s : State) (m : MemOperand) : Byte := s.read .data (s.ea m)

/-- An instruction of `len` bytes that loads a memory operand and uses it as `f` says (R104, R119). -/
def State.withLoad (s : State) (len : Nat) (m : MemOperand) (f : State → Byte → State) : Result :=
  .next (f (s.fetched len) ((s.fetched len).load m))

/-- `Store(mode, v)`: the effective address is not read (R119). -/
def State.store (s : State) (m : MemOperand) (v : Byte) : State := s.write (s.ea m) v

/-- `Modify(mode, f)` of a memory operand: one read and one write of the effective address (R119, D10). -/
def State.modify (s : State) (m : MemOperand) (f : Byte → Byte → Modified) : State :=
  { s.store m (f s.p (s.load m)).value with p := (f s.p (s.load m)).p }

/-- `Modify(acc, f)` (R119). -/
def State.modifyA (s : State) (f : Byte → Byte → Modified) : State :=
  { s with a := (f s.p s.a).value, p := (f s.p s.a).p }

end Sys2Proof.Machine
end

