-- ==== Sys2Proof/Machine/Arith.lean ====
section
/-! DEFINITION. Arithmetic, comparison, logic, increment and decrement (42_arith_logic.md). -/

namespace Sys2Proof.Machine

/-- `Add(A, M, false)` (R134). -/
def State.adc (t : State) (m : Byte) : State := t.addToA m

/-- `Add(A, ~M, false)` (R135). -/
def State.sbc (t : State) (m : Byte) : State := t.addToA (~~~m)

/-- `Add(A, ~M, true)` (R136). -/
def State.cmp (t : State) (m : Byte) : State := t.compare t.a m

/-- `Add(X, ~M, true)` (R137). -/
def State.cpx (t : State) (m : Byte) : State := t.compare t.x m

/-- `Add(Y, ~M, true)` (R138). -/
def State.cpy (t : State) (m : Byte) : State := t.compare t.y m

/-- `A <- A & M; SetNZ(A)` (R139). -/
def State.andA (t : State) (m : Byte) : State := t.setA (t.a &&& m)

/-- `A <- A | M; SetNZ(A)` (R140). -/
def State.orA (t : State) (m : Byte) : State := t.setA (t.a ||| m)

/-- `A <- A ^ M; SetNZ(A)` (R141). -/
def State.eorA (t : State) (m : Byte) : State := t.setA (t.a ^^^ m)

/-- Z from `A & M`, N and V from M (R142). -/
def State.bitTest (t : State) (m : Byte) : State := { t with p := bitFlags t.p t.a m }

/-- X with the result of a modification and the flags it leaves (R145, R147). -/
def State.modifyX (t : State) (f : Byte → Byte → Modified) : State :=
  { t with x := (f t.p t.x).value, p := (f t.p t.x).p }

/-- Y with the result of a modification and the flags it leaves (R146, R148). -/
def State.modifyY (t : State) (f : Byte → Byte → Modified) : State :=
  { t with y := (f t.p t.y).value, p := (f t.p t.y).p }

/-- `ADC #$nn` (R134, R107). -/
def execAdcImm (nn : Byte) (s : State) : Result := .next (State.adc (s.fetched 2) nn)

/-- `ADC $nn` (R134, R108). -/
def execAdcZp (nn : Byte) (s : State) : Result := s.withLoad 2 (.zp nn) State.adc

/-- `ADC $nn,X` (R134, R109). -/
def execAdcZpx (nn : Byte) (s : State) : Result := s.withLoad 2 (.zpx nn) State.adc

/-- `ADC $hhll` (R134, R111). -/
def execAdcAbs (hhll : Word) (s : State) : Result := s.withLoad 3 (.abs hhll) State.adc

/-- `ADC $hhll,X` (R134, R112). -/
def execAdcAbsx (hhll : Word) (s : State) : Result := s.withLoad 3 (.absx hhll) State.adc

/-- `ADC $hhll,Y` (R134, R113). -/
def execAdcAbsy (hhll : Word) (s : State) : Result := s.withLoad 3 (.absy hhll) State.adc

/-- `ADC ($nn,X)` (R134, R116). -/
def execAdcIndx (nn : Byte) (s : State) : Result := s.withLoad 2 (.indx nn) State.adc

/-- `ADC ($nn),Y` (R134, R117). -/
def execAdcIndy (nn : Byte) (s : State) : Result := s.withLoad 2 (.indy nn) State.adc

/-- `SBC #$nn` (R135, R107). -/
def execSbcImm (nn : Byte) (s : State) : Result := .next (State.sbc (s.fetched 2) nn)

/-- `SBC $nn` (R135, R108). -/
def execSbcZp (nn : Byte) (s : State) : Result := s.withLoad 2 (.zp nn) State.sbc

/-- `SBC $nn,X` (R135, R109). -/
def execSbcZpx (nn : Byte) (s : State) : Result := s.withLoad 2 (.zpx nn) State.sbc

/-- `SBC $hhll` (R135, R111). -/
def execSbcAbs (hhll : Word) (s : State) : Result := s.withLoad 3 (.abs hhll) State.sbc

/-- `SBC $hhll,X` (R135, R112). -/
def execSbcAbsx (hhll : Word) (s : State) : Result := s.withLoad 3 (.absx hhll) State.sbc

/-- `SBC $hhll,Y` (R135, R113). -/
def execSbcAbsy (hhll : Word) (s : State) : Result := s.withLoad 3 (.absy hhll) State.sbc

/-- `SBC ($nn,X)` (R135, R116). -/
def execSbcIndx (nn : Byte) (s : State) : Result := s.withLoad 2 (.indx nn) State.sbc

/-- `SBC ($nn),Y` (R135, R117). -/
def execSbcIndy (nn : Byte) (s : State) : Result := s.withLoad 2 (.indy nn) State.sbc

/-- `CMP #$nn` (R136, R107). -/
def execCmpImm (nn : Byte) (s : State) : Result := .next (State.cmp (s.fetched 2) nn)

/-- `CMP $nn` (R136, R108). -/
def execCmpZp (nn : Byte) (s : State) : Result := s.withLoad 2 (.zp nn) State.cmp

/-- `CMP $nn,X` (R136, R109). -/
def execCmpZpx (nn : Byte) (s : State) : Result := s.withLoad 2 (.zpx nn) State.cmp

/-- `CMP $hhll` (R136, R111). -/
def execCmpAbs (hhll : Word) (s : State) : Result := s.withLoad 3 (.abs hhll) State.cmp

/-- `CMP $hhll,X` (R136, R112). -/
def execCmpAbsx (hhll : Word) (s : State) : Result := s.withLoad 3 (.absx hhll) State.cmp

/-- `CMP $hhll,Y` (R136, R113). -/
def execCmpAbsy (hhll : Word) (s : State) : Result := s.withLoad 3 (.absy hhll) State.cmp

/-- `CMP ($nn,X)` (R136, R116). -/
def execCmpIndx (nn : Byte) (s : State) : Result := s.withLoad 2 (.indx nn) State.cmp

/-- `CMP ($nn),Y` (R136, R117). -/
def execCmpIndy (nn : Byte) (s : State) : Result := s.withLoad 2 (.indy nn) State.cmp

/-- `CPX #$nn` (R137, R107). -/
def execCpxImm (nn : Byte) (s : State) : Result := .next (State.cpx (s.fetched 2) nn)

/-- `CPX $nn` (R137, R108). -/
def execCpxZp (nn : Byte) (s : State) : Result := s.withLoad 2 (.zp nn) State.cpx

/-- `CPX $hhll` (R137, R111). -/
def execCpxAbs (hhll : Word) (s : State) : Result := s.withLoad 3 (.abs hhll) State.cpx

/-- `CPY #$nn` (R138, R107). -/
def execCpyImm (nn : Byte) (s : State) : Result := .next (State.cpy (s.fetched 2) nn)

/-- `CPY $nn` (R138, R108). -/
def execCpyZp (nn : Byte) (s : State) : Result := s.withLoad 2 (.zp nn) State.cpy

/-- `CPY $hhll` (R138, R111). -/
def execCpyAbs (hhll : Word) (s : State) : Result := s.withLoad 3 (.abs hhll) State.cpy

/-- `AND #$nn` (R139, R107). -/
def execAndImm (nn : Byte) (s : State) : Result := .next (State.andA (s.fetched 2) nn)

/-- `AND $nn` (R139, R108). -/
def execAndZp (nn : Byte) (s : State) : Result := s.withLoad 2 (.zp nn) State.andA

/-- `AND $nn,X` (R139, R109). -/
def execAndZpx (nn : Byte) (s : State) : Result := s.withLoad 2 (.zpx nn) State.andA

/-- `AND $hhll` (R139, R111). -/
def execAndAbs (hhll : Word) (s : State) : Result := s.withLoad 3 (.abs hhll) State.andA

/-- `AND $hhll,X` (R139, R112). -/
def execAndAbsx (hhll : Word) (s : State) : Result := s.withLoad 3 (.absx hhll) State.andA

/-- `AND $hhll,Y` (R139, R113). -/
def execAndAbsy (hhll : Word) (s : State) : Result := s.withLoad 3 (.absy hhll) State.andA

/-- `AND ($nn,X)` (R139, R116). -/
def execAndIndx (nn : Byte) (s : State) : Result := s.withLoad 2 (.indx nn) State.andA

/-- `AND ($nn),Y` (R139, R117). -/
def execAndIndy (nn : Byte) (s : State) : Result := s.withLoad 2 (.indy nn) State.andA

/-- `ORA #$nn` (R140, R107). -/
def execOraImm (nn : Byte) (s : State) : Result := .next (State.orA (s.fetched 2) nn)

/-- `ORA $nn` (R140, R108). -/
def execOraZp (nn : Byte) (s : State) : Result := s.withLoad 2 (.zp nn) State.orA

/-- `ORA $nn,X` (R140, R109). -/
def execOraZpx (nn : Byte) (s : State) : Result := s.withLoad 2 (.zpx nn) State.orA

/-- `ORA $hhll` (R140, R111). -/
def execOraAbs (hhll : Word) (s : State) : Result := s.withLoad 3 (.abs hhll) State.orA

/-- `ORA $hhll,X` (R140, R112). -/
def execOraAbsx (hhll : Word) (s : State) : Result := s.withLoad 3 (.absx hhll) State.orA

/-- `ORA $hhll,Y` (R140, R113). -/
def execOraAbsy (hhll : Word) (s : State) : Result := s.withLoad 3 (.absy hhll) State.orA

/-- `ORA ($nn,X)` (R140, R116). -/
def execOraIndx (nn : Byte) (s : State) : Result := s.withLoad 2 (.indx nn) State.orA

/-- `ORA ($nn),Y` (R140, R117). -/
def execOraIndy (nn : Byte) (s : State) : Result := s.withLoad 2 (.indy nn) State.orA

/-- `EOR #$nn` (R141, R107). -/
def execEorImm (nn : Byte) (s : State) : Result := .next (State.eorA (s.fetched 2) nn)

/-- `EOR $nn` (R141, R108). -/
def execEorZp (nn : Byte) (s : State) : Result := s.withLoad 2 (.zp nn) State.eorA

/-- `EOR $nn,X` (R141, R109). -/
def execEorZpx (nn : Byte) (s : State) : Result := s.withLoad 2 (.zpx nn) State.eorA

/-- `EOR $hhll` (R141, R111). -/
def execEorAbs (hhll : Word) (s : State) : Result := s.withLoad 3 (.abs hhll) State.eorA

/-- `EOR $hhll,X` (R141, R112). -/
def execEorAbsx (hhll : Word) (s : State) : Result := s.withLoad 3 (.absx hhll) State.eorA

/-- `EOR $hhll,Y` (R141, R113). -/
def execEorAbsy (hhll : Word) (s : State) : Result := s.withLoad 3 (.absy hhll) State.eorA

/-- `EOR ($nn,X)` (R141, R116). -/
def execEorIndx (nn : Byte) (s : State) : Result := s.withLoad 2 (.indx nn) State.eorA

/-- `EOR ($nn),Y` (R141, R117). -/
def execEorIndy (nn : Byte) (s : State) : Result := s.withLoad 2 (.indy nn) State.eorA

/-- `BIT $nn` (R142, R108). -/
def execBitZp (nn : Byte) (s : State) : Result := s.withLoad 2 (.zp nn) State.bitTest

/-- `BIT $hhll` (R142, R111). -/
def execBitAbs (hhll : Word) (s : State) : Result := s.withLoad 3 (.abs hhll) State.bitTest

/-- `INC $nn` (R143, R108). -/
def execIncZp (nn : Byte) (s : State) : Result := .next ((s.fetched 2).modify (.zp nn) increment)

/-- `INC $nn,X` (R143, R109). -/
def execIncZpx (nn : Byte) (s : State) : Result := .next ((s.fetched 2).modify (.zpx nn) increment)

/-- `INC $hhll` (R143, R111). -/
def execIncAbs (hhll : Word) (s : State) : Result := .next ((s.fetched 3).modify (.abs hhll) increment)

/-- `INC $hhll,X` (R143, R112). -/
def execIncAbsx (hhll : Word) (s : State) : Result := .next ((s.fetched 3).modify (.absx hhll) increment)

/-- `DEC $nn` (R144, R108). -/
def execDecZp (nn : Byte) (s : State) : Result := .next ((s.fetched 2).modify (.zp nn) decrement)

/-- `DEC $nn,X` (R144, R109). -/
def execDecZpx (nn : Byte) (s : State) : Result := .next ((s.fetched 2).modify (.zpx nn) decrement)

/-- `DEC $hhll` (R144, R111). -/
def execDecAbs (hhll : Word) (s : State) : Result := .next ((s.fetched 3).modify (.abs hhll) decrement)

/-- `DEC $hhll,X` (R144, R112). -/
def execDecAbsx (hhll : Word) (s : State) : Result := .next ((s.fetched 3).modify (.absx hhll) decrement)

/-- `INX` (R145). -/
def execInx (s : State) : Result := .next ((s.fetched 1).modifyX increment)

/-- `INY` (R146). -/
def execIny (s : State) : Result := .next ((s.fetched 1).modifyY increment)

/-- `DEX` (R147). -/
def execDex (s : State) : Result := .next ((s.fetched 1).modifyX decrement)

/-- `DEY` (R148). -/
def execDey (s : State) : Result := .next ((s.fetched 1).modifyY decrement)

end Sys2Proof.Machine
end

