-- ==== Sys2Proof/Machine/Control.lean ====
section
/-! DEFINITION. Branches, jumps, subroutine call and return (44_control.md). -/

namespace Sys2Proof.Machine

/-- A conditional branch: the operand byte is fetched, taken or not; PC moves to the target when `cond` holds (R156). -/
def State.branchIf (s : State) (cond : Bool) (off : Byte) : Result :=
  let t := s.fetched 2
  .next (if cond then t.jump (t.branchTarget off) else t)

/-- JSR's two pushes: the address of JSR's last byte, high byte first; `none` when one of them would find S = 0, which
is checked before either (R166, D8). -/
def State.pushReturn (t : State) : Option State :=
  if t.sp = 0x00 ∨ t.sp = 0x01 then none
  else (t.push (highByte (t.pc - 1))).bind fun u => u.push (lowByte (t.pc - 1))

/-- RTS's two pulls, low byte first, and the jump one past the word pulled; `none` when one of them would find
S = 0xFF, which is checked before either (R167, D8). -/
def State.pullReturn (t : State) : Option State :=
  if t.sp = 0xFE ∨ t.sp = 0xFF then none
  else t.pull.bind fun lo => lo.1.pull.map fun hi => hi.1.jump (wordOf hi.2 lo.2 + 1)

/-- `BPL` with offset `nn` (R157, R114). -/
def execBpl (nn : Byte) (s : State) : Result := s.branchIf (!getFlag s.p .n) nn

/-- `BMI` with offset `nn` (R158, R114). -/
def execBmi (nn : Byte) (s : State) : Result := s.branchIf (getFlag s.p .n) nn

/-- `BVC` with offset `nn` (R159, R114). -/
def execBvc (nn : Byte) (s : State) : Result := s.branchIf (!getFlag s.p .v) nn

/-- `BVS` with offset `nn` (R160, R114). -/
def execBvs (nn : Byte) (s : State) : Result := s.branchIf (getFlag s.p .v) nn

/-- `BCC` with offset `nn` (R161, R114). -/
def execBcc (nn : Byte) (s : State) : Result := s.branchIf (!getFlag s.p .c) nn

/-- `BCS` with offset `nn` (R162, R114). -/
def execBcs (nn : Byte) (s : State) : Result := s.branchIf (getFlag s.p .c) nn

/-- `BNE` with offset `nn` (R163, R114). -/
def execBne (nn : Byte) (s : State) : Result := s.branchIf (!getFlag s.p .z) nn

/-- `BEQ` with offset `nn` (R164, R114). -/
def execBeq (nn : Byte) (s : State) : Result := s.branchIf (getFlag s.p .z) nn

/-- `JMP $hhll` (R165, R111). -/
def execJmpAbs (hhll : Word) (s : State) : Result := .next ((s.fetched 3).jump hhll)

/-- `JMP ($hhll)` (R165, R115). -/
def execJmpInd (hhll : Word) (s : State) : Result := .next ((s.fetched 3).jump ((s.fetched 3).indirectTarget hhll))

/-- `JSR $hhll` (R166): faults when S is 0 or 1. -/
def execJsr (hhll : Word) (s : State) : Result :=
  s.orFault .stackOverflow 0x20 ((s.fetched 3).pushReturn.map fun t => t.jump hhll)

/-- `RTS` (R167): faults when S is 0xFE or 0xFF. -/
def execRts (s : State) : Result := s.orFault .stackUnderflow 0x60 (s.fetched 1).pullReturn

end Sys2Proof.Machine
end

