-- ==== Sys2Proof/Machine/LoadStore.lean ====
section
/-! DEFINITION. The loads, stores and register transfers (41_load_store_transfer.md). -/

namespace Sys2Proof.Machine

/-- `LDA #$nn` (R120, R107). -/
def execLdaImm (nn : Byte) (s : State) : Result := .next (State.setA (s.fetched 2) nn)

/-- `LDA $nn` (R120, R108). -/
def execLdaZp (nn : Byte) (s : State) : Result := s.withLoad 2 (.zp nn) State.setA

/-- `LDA $nn,X` (R120, R109). -/
def execLdaZpx (nn : Byte) (s : State) : Result := s.withLoad 2 (.zpx nn) State.setA

/-- `LDA $hhll` (R120, R111). -/
def execLdaAbs (hhll : Word) (s : State) : Result := s.withLoad 3 (.abs hhll) State.setA

/-- `LDA $hhll,X` (R120, R112). -/
def execLdaAbsx (hhll : Word) (s : State) : Result := s.withLoad 3 (.absx hhll) State.setA

/-- `LDA $hhll,Y` (R120, R113). -/
def execLdaAbsy (hhll : Word) (s : State) : Result := s.withLoad 3 (.absy hhll) State.setA

/-- `LDA ($nn,X)` (R120, R116). -/
def execLdaIndx (nn : Byte) (s : State) : Result := s.withLoad 2 (.indx nn) State.setA

/-- `LDA ($nn),Y` (R120, R117). -/
def execLdaIndy (nn : Byte) (s : State) : Result := s.withLoad 2 (.indy nn) State.setA

/-- `LDX #$nn` (R121, R107). -/
def execLdxImm (nn : Byte) (s : State) : Result := .next (State.setX (s.fetched 2) nn)

/-- `LDX $nn` (R121, R108). -/
def execLdxZp (nn : Byte) (s : State) : Result := s.withLoad 2 (.zp nn) State.setX

/-- `LDX $nn,Y` (R121, R110). -/
def execLdxZpy (nn : Byte) (s : State) : Result := s.withLoad 2 (.zpy nn) State.setX

/-- `LDX $hhll` (R121, R111). -/
def execLdxAbs (hhll : Word) (s : State) : Result := s.withLoad 3 (.abs hhll) State.setX

/-- `LDX $hhll,Y` (R121, R113). -/
def execLdxAbsy (hhll : Word) (s : State) : Result := s.withLoad 3 (.absy hhll) State.setX

/-- `LDY #$nn` (R122, R107). -/
def execLdyImm (nn : Byte) (s : State) : Result := .next (State.setY (s.fetched 2) nn)

/-- `LDY $nn` (R122, R108). -/
def execLdyZp (nn : Byte) (s : State) : Result := s.withLoad 2 (.zp nn) State.setY

/-- `LDY $nn,X` (R122, R109). -/
def execLdyZpx (nn : Byte) (s : State) : Result := s.withLoad 2 (.zpx nn) State.setY

/-- `LDY $hhll` (R122, R111). -/
def execLdyAbs (hhll : Word) (s : State) : Result := s.withLoad 3 (.abs hhll) State.setY

/-- `LDY $hhll,X` (R122, R112). -/
def execLdyAbsx (hhll : Word) (s : State) : Result := s.withLoad 3 (.absx hhll) State.setY

/-- `STA $nn` (R123, R108). -/
def execStaZp (nn : Byte) (s : State) : Result := .next ((s.fetched 2).store (.zp nn) s.a)

/-- `STA $nn,X` (R123, R109). -/
def execStaZpx (nn : Byte) (s : State) : Result := .next ((s.fetched 2).store (.zpx nn) s.a)

/-- `STA $hhll` (R123, R111). -/
def execStaAbs (hhll : Word) (s : State) : Result := .next ((s.fetched 3).store (.abs hhll) s.a)

/-- `STA $hhll,X` (R123, R112). -/
def execStaAbsx (hhll : Word) (s : State) : Result := .next ((s.fetched 3).store (.absx hhll) s.a)

/-- `STA $hhll,Y` (R123, R113). -/
def execStaAbsy (hhll : Word) (s : State) : Result := .next ((s.fetched 3).store (.absy hhll) s.a)

/-- `STA ($nn,X)` (R123, R116). -/
def execStaIndx (nn : Byte) (s : State) : Result := .next ((s.fetched 2).store (.indx nn) s.a)

/-- `STA ($nn),Y` (R123, R117). -/
def execStaIndy (nn : Byte) (s : State) : Result := .next ((s.fetched 2).store (.indy nn) s.a)

/-- `STX $nn` (R124, R108). -/
def execStxZp (nn : Byte) (s : State) : Result := .next ((s.fetched 2).store (.zp nn) s.x)

/-- `STX $nn,Y` (R124, R110). -/
def execStxZpy (nn : Byte) (s : State) : Result := .next ((s.fetched 2).store (.zpy nn) s.x)

/-- `STX $hhll` (R124, R111). -/
def execStxAbs (hhll : Word) (s : State) : Result := .next ((s.fetched 3).store (.abs hhll) s.x)

/-- `STY $nn` (R125, R108). -/
def execStyZp (nn : Byte) (s : State) : Result := .next ((s.fetched 2).store (.zp nn) s.y)

/-- `STY $nn,X` (R125, R109). -/
def execStyZpx (nn : Byte) (s : State) : Result := .next ((s.fetched 2).store (.zpx nn) s.y)

/-- `STY $hhll` (R125, R111). -/
def execStyAbs (hhll : Word) (s : State) : Result := .next ((s.fetched 3).store (.abs hhll) s.y)

/-- `TAX` (R126). -/
def execTax (s : State) : Result := .next ((s.fetched 1).setX s.a)

/-- `TAY` (R127). -/
def execTay (s : State) : Result := .next ((s.fetched 1).setY s.a)

/-- `TXA` (R128). -/
def execTxa (s : State) : Result := .next ((s.fetched 1).setA s.x)

/-- `TYA` (R129). -/
def execTya (s : State) : Result := .next ((s.fetched 1).setA s.y)

/-- `TSX` (R130). -/
def execTsx (s : State) : Result := .next ((s.fetched 1).setX s.sp)

/-- `TXS` (R131): no flag is written and no fault is raised, whatever X is. -/
def execTxs (s : State) : Result := .next { s.fetched 1 with sp := s.x }

end Sys2Proof.Machine
end

