-- ==== Sys2Proof/Machine/Shift.lean ====
section
/-! DEFINITION. The shifts and rotates (43_shift_rotate.md). -/

namespace Sys2Proof.Machine

/-- `ASL A` (R152, R106). -/
def execAslAcc (s : State) : Result := .next ((s.fetched 1).modifyA shiftLeft)

/-- `ASL $nn` (R152, R108). -/
def execAslZp (nn : Byte) (s : State) : Result := .next ((s.fetched 2).modify (.zp nn) shiftLeft)

/-- `ASL $nn,X` (R152, R109). -/
def execAslZpx (nn : Byte) (s : State) : Result := .next ((s.fetched 2).modify (.zpx nn) shiftLeft)

/-- `ASL $hhll` (R152, R111). -/
def execAslAbs (hhll : Word) (s : State) : Result := .next ((s.fetched 3).modify (.abs hhll) shiftLeft)

/-- `ASL $hhll,X` (R152, R112). -/
def execAslAbsx (hhll : Word) (s : State) : Result := .next ((s.fetched 3).modify (.absx hhll) shiftLeft)

/-- `LSR A` (R153, R106). -/
def execLsrAcc (s : State) : Result := .next ((s.fetched 1).modifyA shiftRight)

/-- `LSR $nn` (R153, R108). -/
def execLsrZp (nn : Byte) (s : State) : Result := .next ((s.fetched 2).modify (.zp nn) shiftRight)

/-- `LSR $nn,X` (R153, R109). -/
def execLsrZpx (nn : Byte) (s : State) : Result := .next ((s.fetched 2).modify (.zpx nn) shiftRight)

/-- `LSR $hhll` (R153, R111). -/
def execLsrAbs (hhll : Word) (s : State) : Result := .next ((s.fetched 3).modify (.abs hhll) shiftRight)

/-- `LSR $hhll,X` (R153, R112). -/
def execLsrAbsx (hhll : Word) (s : State) : Result := .next ((s.fetched 3).modify (.absx hhll) shiftRight)

/-- `ROL A` (R154, R106). -/
def execRolAcc (s : State) : Result := .next ((s.fetched 1).modifyA rotateLeft)

/-- `ROL $nn` (R154, R108). -/
def execRolZp (nn : Byte) (s : State) : Result := .next ((s.fetched 2).modify (.zp nn) rotateLeft)

/-- `ROL $nn,X` (R154, R109). -/
def execRolZpx (nn : Byte) (s : State) : Result := .next ((s.fetched 2).modify (.zpx nn) rotateLeft)

/-- `ROL $hhll` (R154, R111). -/
def execRolAbs (hhll : Word) (s : State) : Result := .next ((s.fetched 3).modify (.abs hhll) rotateLeft)

/-- `ROL $hhll,X` (R154, R112). -/
def execRolAbsx (hhll : Word) (s : State) : Result := .next ((s.fetched 3).modify (.absx hhll) rotateLeft)

/-- `ROR A` (R155, R106). -/
def execRorAcc (s : State) : Result := .next ((s.fetched 1).modifyA rotateRight)

/-- `ROR $nn` (R155, R108). -/
def execRorZp (nn : Byte) (s : State) : Result := .next ((s.fetched 2).modify (.zp nn) rotateRight)

/-- `ROR $nn,X` (R155, R109). -/
def execRorZpx (nn : Byte) (s : State) : Result := .next ((s.fetched 2).modify (.zpx nn) rotateRight)

/-- `ROR $hhll` (R155, R111). -/
def execRorAbs (hhll : Word) (s : State) : Result := .next ((s.fetched 3).modify (.abs hhll) rotateRight)

/-- `ROR $hhll,X` (R155, R112). -/
def execRorAbsx (hhll : Word) (s : State) : Result := .next ((s.fetched 3).modify (.absx hhll) rotateRight)

end Sys2Proof.Machine
end

