-- ==== Sys2Proof/Machine/System.lean ====
section
/-! DEFINITION. Push and pull, the flag instructions, NOP, and the unsupported BRK and RTI (45_stack_flag_system.md). -/

namespace Sys2Proof.Machine

/-- `PHP_OR` (R7, R172): its bits 5 and 4 are the parameter, its other bits 0. -/
def phpOr (q : Params) : Byte := (0#2 ++ q.phpOr) ++ 0#4

/-- `PHA` (R171): faults when S is 0. -/
def execPha (s : State) : Result := s.orFault .stackOverflow 0x48 ((s.fetched 1).push s.a)

/-- `PHP` (R172): pushes `P | PHP_OR`, P itself unchanged; faults when S is 0. -/
def execPhp (s : State) : Result :=
  s.orFault .stackOverflow 0x08 ((s.fetched 1).push (s.p ||| phpOr s.params))

/-- `PLA` (R173): faults when S is 0xFF. -/
def execPla (s : State) : Result :=
  s.orFault .stackUnderflow 0x68 ((s.fetched 1).pull.map fun t => t.1.setA t.2)

/-- `PLP` (R174): all eight bits of P are pulled; faults when S is 0xFF. -/
def execPlp (s : State) : Result :=
  s.orFault .stackUnderflow 0x28 ((s.fetched 1).pull.map fun t => { t.1 with p := t.2 })

/-- `CLC` (R175). -/
def execClc (s : State) : Result := .next ((s.fetched 1).withFlag .c false)

/-- `SEC` (R176). -/
def execSec (s : State) : Result := .next ((s.fetched 1).withFlag .c true)

/-- `CLI` (R177). -/
def execCli (s : State) : Result := .next ((s.fetched 1).withFlag .i false)

/-- `SEI` (R178). -/
def execSei (s : State) : Result := .next ((s.fetched 1).withFlag .i true)

/-- `CLD` (R179). -/
def execCld (s : State) : Result := .next ((s.fetched 1).withFlag .d false)

/-- `SED` (R180). -/
def execSed (s : State) : Result := .next ((s.fetched 1).withFlag .d true)

/-- `CLV` (R181). -/
def execClv (s : State) : Result := .next ((s.fetched 1).withFlag .v false)

/-- `NOP` (R182): nothing but the fetch. -/
def execNop (s : State) : Result := .next (s.fetched 1)

/-- `BRK` (R183, R191): raises `Unsupported`; nothing is pushed, pulled or read. -/
def execBrk (s : State) : Result := .next (s.raiseFault .unsupported 0x00)

/-- `RTI` (R184, R191): raises `Unsupported`; nothing is pushed, pulled or read. -/
def execRti (s : State) : Result := .next (s.raiseFault .unsupported 0x40)

end Sys2Proof.Machine
end

