-- ==== Sys2Proof/Machine/Dispatch.lean ====
section
/-! DEFINITION. One arm per constructor of Instr, each a direct call of the meaning of its instruction. -/

namespace Sys2Proof.Machine

def exec (i : Instr) (s : State) : Host.Outcome State Fault Refusal :=
  match i with
  -- LoadStore
  | .ldaImm nn => Sys2Proof.Machine.execLdaImm nn s
  | .ldaZp nn => Sys2Proof.Machine.execLdaZp nn s
  | .ldaZpx nn => Sys2Proof.Machine.execLdaZpx nn s
  | .ldaAbs hhll => Sys2Proof.Machine.execLdaAbs hhll s
  | .ldaAbsx hhll => Sys2Proof.Machine.execLdaAbsx hhll s
  | .ldaAbsy hhll => Sys2Proof.Machine.execLdaAbsy hhll s
  | .ldaIndx nn => Sys2Proof.Machine.execLdaIndx nn s
  | .ldaIndy nn => Sys2Proof.Machine.execLdaIndy nn s
  | .ldxImm nn => Sys2Proof.Machine.execLdxImm nn s
  | .ldxZp nn => Sys2Proof.Machine.execLdxZp nn s
  | .ldxZpy nn => Sys2Proof.Machine.execLdxZpy nn s
  | .ldxAbs hhll => Sys2Proof.Machine.execLdxAbs hhll s
  | .ldxAbsy hhll => Sys2Proof.Machine.execLdxAbsy hhll s
  | .ldyImm nn => Sys2Proof.Machine.execLdyImm nn s
  | .ldyZp nn => Sys2Proof.Machine.execLdyZp nn s
  | .ldyZpx nn => Sys2Proof.Machine.execLdyZpx nn s
  | .ldyAbs hhll => Sys2Proof.Machine.execLdyAbs hhll s
  | .ldyAbsx hhll => Sys2Proof.Machine.execLdyAbsx hhll s
  | .staZp nn => Sys2Proof.Machine.execStaZp nn s
  | .staZpx nn => Sys2Proof.Machine.execStaZpx nn s
  | .staAbs hhll => Sys2Proof.Machine.execStaAbs hhll s
  | .staAbsx hhll => Sys2Proof.Machine.execStaAbsx hhll s
  | .staAbsy hhll => Sys2Proof.Machine.execStaAbsy hhll s
  | .staIndx nn => Sys2Proof.Machine.execStaIndx nn s
  | .staIndy nn => Sys2Proof.Machine.execStaIndy nn s
  | .stxZp nn => Sys2Proof.Machine.execStxZp nn s
  | .stxZpy nn => Sys2Proof.Machine.execStxZpy nn s
  | .stxAbs hhll => Sys2Proof.Machine.execStxAbs hhll s
  | .styZp nn => Sys2Proof.Machine.execStyZp nn s
  | .styZpx nn => Sys2Proof.Machine.execStyZpx nn s
  | .styAbs hhll => Sys2Proof.Machine.execStyAbs hhll s
  | .tax => Sys2Proof.Machine.execTax s
  | .tay => Sys2Proof.Machine.execTay s
  | .txa => Sys2Proof.Machine.execTxa s
  | .tya => Sys2Proof.Machine.execTya s
  | .tsx => Sys2Proof.Machine.execTsx s
  | .txs => Sys2Proof.Machine.execTxs s
  -- Arith
  | .adcImm nn => Sys2Proof.Machine.execAdcImm nn s
  | .adcZp nn => Sys2Proof.Machine.execAdcZp nn s
  | .adcZpx nn => Sys2Proof.Machine.execAdcZpx nn s
  | .adcAbs hhll => Sys2Proof.Machine.execAdcAbs hhll s
  | .adcAbsx hhll => Sys2Proof.Machine.execAdcAbsx hhll s
  | .adcAbsy hhll => Sys2Proof.Machine.execAdcAbsy hhll s
  | .adcIndx nn => Sys2Proof.Machine.execAdcIndx nn s
  | .adcIndy nn => Sys2Proof.Machine.execAdcIndy nn s
  | .sbcImm nn => Sys2Proof.Machine.execSbcImm nn s
  | .sbcZp nn => Sys2Proof.Machine.execSbcZp nn s
  | .sbcZpx nn => Sys2Proof.Machine.execSbcZpx nn s
  | .sbcAbs hhll => Sys2Proof.Machine.execSbcAbs hhll s
  | .sbcAbsx hhll => Sys2Proof.Machine.execSbcAbsx hhll s
  | .sbcAbsy hhll => Sys2Proof.Machine.execSbcAbsy hhll s
  | .sbcIndx nn => Sys2Proof.Machine.execSbcIndx nn s
  | .sbcIndy nn => Sys2Proof.Machine.execSbcIndy nn s
  | .cmpImm nn => Sys2Proof.Machine.execCmpImm nn s
  | .cmpZp nn => Sys2Proof.Machine.execCmpZp nn s
  | .cmpZpx nn => Sys2Proof.Machine.execCmpZpx nn s
  | .cmpAbs hhll => Sys2Proof.Machine.execCmpAbs hhll s
  | .cmpAbsx hhll => Sys2Proof.Machine.execCmpAbsx hhll s
  | .cmpAbsy hhll => Sys2Proof.Machine.execCmpAbsy hhll s
  | .cmpIndx nn => Sys2Proof.Machine.execCmpIndx nn s
  | .cmpIndy nn => Sys2Proof.Machine.execCmpIndy nn s
  | .cpxImm nn => Sys2Proof.Machine.execCpxImm nn s
  | .cpxZp nn => Sys2Proof.Machine.execCpxZp nn s
  | .cpxAbs hhll => Sys2Proof.Machine.execCpxAbs hhll s
  | .cpyImm nn => Sys2Proof.Machine.execCpyImm nn s
  | .cpyZp nn => Sys2Proof.Machine.execCpyZp nn s
  | .cpyAbs hhll => Sys2Proof.Machine.execCpyAbs hhll s
  | .andImm nn => Sys2Proof.Machine.execAndImm nn s
  | .andZp nn => Sys2Proof.Machine.execAndZp nn s
  | .andZpx nn => Sys2Proof.Machine.execAndZpx nn s
  | .andAbs hhll => Sys2Proof.Machine.execAndAbs hhll s
  | .andAbsx hhll => Sys2Proof.Machine.execAndAbsx hhll s
  | .andAbsy hhll => Sys2Proof.Machine.execAndAbsy hhll s
  | .andIndx nn => Sys2Proof.Machine.execAndIndx nn s
  | .andIndy nn => Sys2Proof.Machine.execAndIndy nn s
  | .oraImm nn => Sys2Proof.Machine.execOraImm nn s
  | .oraZp nn => Sys2Proof.Machine.execOraZp nn s
  | .oraZpx nn => Sys2Proof.Machine.execOraZpx nn s
  | .oraAbs hhll => Sys2Proof.Machine.execOraAbs hhll s
  | .oraAbsx hhll => Sys2Proof.Machine.execOraAbsx hhll s
  | .oraAbsy hhll => Sys2Proof.Machine.execOraAbsy hhll s
  | .oraIndx nn => Sys2Proof.Machine.execOraIndx nn s
  | .oraIndy nn => Sys2Proof.Machine.execOraIndy nn s
  | .eorImm nn => Sys2Proof.Machine.execEorImm nn s
  | .eorZp nn => Sys2Proof.Machine.execEorZp nn s
  | .eorZpx nn => Sys2Proof.Machine.execEorZpx nn s
  | .eorAbs hhll => Sys2Proof.Machine.execEorAbs hhll s
  | .eorAbsx hhll => Sys2Proof.Machine.execEorAbsx hhll s
  | .eorAbsy hhll => Sys2Proof.Machine.execEorAbsy hhll s
  | .eorIndx nn => Sys2Proof.Machine.execEorIndx nn s
  | .eorIndy nn => Sys2Proof.Machine.execEorIndy nn s
  | .bitZp nn => Sys2Proof.Machine.execBitZp nn s
  | .bitAbs hhll => Sys2Proof.Machine.execBitAbs hhll s
  | .incZp nn => Sys2Proof.Machine.execIncZp nn s
  | .incZpx nn => Sys2Proof.Machine.execIncZpx nn s
  | .incAbs hhll => Sys2Proof.Machine.execIncAbs hhll s
  | .incAbsx hhll => Sys2Proof.Machine.execIncAbsx hhll s
  | .decZp nn => Sys2Proof.Machine.execDecZp nn s
  | .decZpx nn => Sys2Proof.Machine.execDecZpx nn s
  | .decAbs hhll => Sys2Proof.Machine.execDecAbs hhll s
  | .decAbsx hhll => Sys2Proof.Machine.execDecAbsx hhll s
  | .inx => Sys2Proof.Machine.execInx s
  | .iny => Sys2Proof.Machine.execIny s
  | .dex => Sys2Proof.Machine.execDex s
  | .dey => Sys2Proof.Machine.execDey s
  -- Shift
  | .aslAcc => Sys2Proof.Machine.execAslAcc s
  | .aslZp nn => Sys2Proof.Machine.execAslZp nn s
  | .aslZpx nn => Sys2Proof.Machine.execAslZpx nn s
  | .aslAbs hhll => Sys2Proof.Machine.execAslAbs hhll s
  | .aslAbsx hhll => Sys2Proof.Machine.execAslAbsx hhll s
  | .lsrAcc => Sys2Proof.Machine.execLsrAcc s
  | .lsrZp nn => Sys2Proof.Machine.execLsrZp nn s
  | .lsrZpx nn => Sys2Proof.Machine.execLsrZpx nn s
  | .lsrAbs hhll => Sys2Proof.Machine.execLsrAbs hhll s
  | .lsrAbsx hhll => Sys2Proof.Machine.execLsrAbsx hhll s
  | .rolAcc => Sys2Proof.Machine.execRolAcc s
  | .rolZp nn => Sys2Proof.Machine.execRolZp nn s
  | .rolZpx nn => Sys2Proof.Machine.execRolZpx nn s
  | .rolAbs hhll => Sys2Proof.Machine.execRolAbs hhll s
  | .rolAbsx hhll => Sys2Proof.Machine.execRolAbsx hhll s
  | .rorAcc => Sys2Proof.Machine.execRorAcc s
  | .rorZp nn => Sys2Proof.Machine.execRorZp nn s
  | .rorZpx nn => Sys2Proof.Machine.execRorZpx nn s
  | .rorAbs hhll => Sys2Proof.Machine.execRorAbs hhll s
  | .rorAbsx hhll => Sys2Proof.Machine.execRorAbsx hhll s
  -- Control
  | .bpl nn => Sys2Proof.Machine.execBpl nn s
  | .bmi nn => Sys2Proof.Machine.execBmi nn s
  | .bvc nn => Sys2Proof.Machine.execBvc nn s
  | .bvs nn => Sys2Proof.Machine.execBvs nn s
  | .bcc nn => Sys2Proof.Machine.execBcc nn s
  | .bcs nn => Sys2Proof.Machine.execBcs nn s
  | .bne nn => Sys2Proof.Machine.execBne nn s
  | .beq nn => Sys2Proof.Machine.execBeq nn s
  | .jmpAbs hhll => Sys2Proof.Machine.execJmpAbs hhll s
  | .jmpInd hhll => Sys2Proof.Machine.execJmpInd hhll s
  | .jsr hhll => Sys2Proof.Machine.execJsr hhll s
  | .rts => Sys2Proof.Machine.execRts s
  -- System
  | .pha => Sys2Proof.Machine.execPha s
  | .php => Sys2Proof.Machine.execPhp s
  | .pla => Sys2Proof.Machine.execPla s
  | .plp => Sys2Proof.Machine.execPlp s
  | .clc => Sys2Proof.Machine.execClc s
  | .sec => Sys2Proof.Machine.execSec s
  | .cli => Sys2Proof.Machine.execCli s
  | .sei => Sys2Proof.Machine.execSei s
  | .cld => Sys2Proof.Machine.execCld s
  | .sed => Sys2Proof.Machine.execSed s
  | .clv => Sys2Proof.Machine.execClv s
  | .nop => Sys2Proof.Machine.execNop s
  | .brk => Sys2Proof.Machine.execBrk s
  | .rti => Sys2Proof.Machine.execRti s

end Sys2Proof.Machine
end

