-- ==== Sys2Proof/Machine/Step.lean ====
section
/-! DEFINITION. One step of the execution loop: one whole instruction (R15, R185). -/

namespace Sys2Proof.Machine

/-- `Step()` (R185): fetch, decode, execute. An opcode byte without an entry raises `UnknownOpcode` (R192). A Faulted
state has no step (R190). `exec` does the fetch's advance of PC and IC itself. -/
def step (s : State) : Host.Outcome State Fault Refusal :=
  match s.status with
  | .faulted kind pc opcode n => .fault (.halted kind pc opcode n)
  | .running =>
    match decode s.fetchBytes with
    | some (i, _) => exec i s
    | none => .next (s.raiseFault .unknownOpcode (s.read .opcode s.pc))

/-- The state with the three bytes of a table word placed at PC, PC + 1, PC + 2, each in the cell that answers a fetch
there (`Bus.place`); the last byte first, so that a byte that lands in the processor port has changed the map before the
bytes ahead of it are placed (log entry 14). -/
def State.withFetchWord (s : State) (nbits w : Nat) : State :=
  { s with
    bus := ((s.bus.place (s.pc + 2) (tableByte nbits w 2)).place (s.pc + 1) (tableByte nbits w 1)).place s.pc
      (tableByte nbits w 0) }

end Sys2Proof.Machine
end

