-- ==== Sys2Proof/Machine/Debug.lean ====
section
/-! DEFINITION. The host's side of the loop: what it may read between instructions, and its stop request
(60_exceptions.md section 8, 00_scope.md section 6). None of it writes the state (R16, R204). -/

namespace Sys2Proof.Machine

/-- What the debug interface reads: registers, flags, and the instruction and cycle counters (R204). -/
structure DebugView where
  a     : Byte
  x     : Byte
  y     : Byte
  sp    : Byte
  p     : Byte
  pc    : Word
  flags : List (Flag × Bool)
  ic    : Nat
  cyc   : Nat
  deriving DecidableEq, Repr

/-- The debug interface's read of a state (R204). -/
def State.debugView (s : State) : DebugView :=
  { a := s.a, x := s.x, y := s.y, sp := s.sp, p := s.p, pc := s.pc
    flags := [Flag.n, .v, .b, .d, .i, .z, .c].map fun f => (f, getFlag s.p f)
    ic := s.ic, cyc := s.cyc }

/-- What the renderer's snapshot reads: the video register file and the colour RAM (R204). The RAM region it also reads
is given by no rule and is outside the CORE (93 U22; log entry 15). -/
structure Snapshot where
  vid   : Vector Byte 64
  color : Store 4
  deriving DecidableEq, Repr

/-- The renderer's snapshot of a state (R204). -/
def State.snapshot (s : State) : Snapshot := { vid := s.bus.vid, color := s.bus.color }

/-- The loop under a host that says before each instruction whether it asks for a stop (R205): it honours the request
between instructions, keeping the whole state, and ends by itself only in a Faulted state. -/
def hostRun (stops : List Bool) (s : State) : State :=
  match stops with
  | [] => s
  | true :: _ => s
  | false :: rest =>
    match step s with
    | .next t => hostRun rest t
    | .fault _ => s
    | .refused _ => s

end Sys2Proof.Machine
end

