-- ==== Sys2Proof/Safety.lean ====
section
/-! DEFINITION. What counts as a safe state and as the end of a run (R206, R216). -/

namespace Sys2Proof.Machine

/-- The invariant of the model: every memory has its size and its canonical form. -/
def State.wf (s : State) : Bool := s.bus.wf

/-- A launch state: running, its memories canonical (R216; BANK is a function of PORT, so R216's invariant holds of
every state). -/
def State.launchable (s : State) : Bool := s.status == .running && s.wf

/-- The run has ended successfully at `stopPc` (R206). -/
def State.endedAt (s : State) (stopPc : Word) : Bool := s.status == .running && s.pc == stopPc

/-- The run has ended unsuccessfully (R206). -/
def State.hasFaulted (s : State) : Bool := s.status != .running

/-- A run of at most `fuel` steps towards `stopPc`: its last state, or `none` when it has not ended by then (R206). -/
def runUntil (stopPc : Word) (fuel : Nat) (s : State) : Option State :=
  if s.endedAt stopPc || s.hasFaulted then some s
  else
    match fuel with
    | 0 => none
    | k + 1 =>
      match step s with
      | .next t => runUntil stopPc k t
      | .fault _ => some s
      | .refused _ => some s

end Sys2Proof.Machine
end

