-- ==== Sys2Proof/Certificates/Slice0/Obligations.lean ====
section
/-! DEFINITION. The statements for the provers: what the machine does, rule by rule. Each is a proposition and none is
proved here. The first part names the forms of the instructions and the vocabulary of the statements. -/

namespace Sys2Proof.Claims

open Sys2Proof.Machine

/-- P goes from `p` to `q` with every flag outside `fs`, and the unnamed bit 5, as before. -/
def KeepsFlags (fs : List Flag) (p q : Byte) : Prop :=
  (∀ f, f ∉ fs → getFlag q f = getFlag p f) ∧ q.getLsbD 5 = p.getLsbD 5

/-- P goes from `p` to `q` as `SetNZ(v)` says: Z is set exactly when v is 0, N is bit 7 of v, nothing else changes. -/
def NZOf (v p q : Byte) : Prop :=
  (getFlag q .z = true ↔ v.toNat = 0) ∧ (getFlag q .n = true ↔ 128 ≤ v.toNat) ∧ KeepsFlags [.n, .z] p q

/-- The value of the carry flag as a number. -/
def carryOf (p : Byte) : Nat := (getFlag p .c).toNat

/-- A form of an instruction that reads a value: the instruction, its length, its operand in memory (none: an
immediate), the value. -/
structure ValueForm where
  instr   : Instr
  len     : Nat
  operand : Option MemOperand
  value   : Byte

/-- A form of an instruction that addresses memory: the instruction, its length, the operand. -/
structure MemoryForm where
  instr   : Instr
  len     : Nat
  operand : MemOperand

/-- `MemRead(addr, 1)` of a state is a bus read at that address (R10, R55). The byte `d` is looked at by a read of video
offset 0x12 alone (R69). -/
def ReadsTheBus (s : State) : Prop :=
  ∀ (k : Access) (addr : Word), ∃ d : Byte, s.read k addr = s.bus.read d addr

/-- The value of the operand `m` of an instruction of `len` bytes is the bus read of its effective address, as
`Load(mode)` says (R119). -/
def LoadsFromBus (s : State) (len : Nat) (m : MemOperand) (v : Byte) : Prop :=
  ∃ d : Byte, v = s.bus.read d ((s.fetched len).ea m)

/-- The value of a form is `Load(mode)` (R119): the operand byte `nn` of an immediate, the bus read of the effective
address otherwise. -/
def ValueForm.IsLoaded (s : State) (nn : Byte) (f : ValueForm) : Prop :=
  match f.operand with
  | none => f.value = nn
  | some m => LoadsFromBus s f.len m f.value

/-- A register of the video register file. -/
def vidReg (b : Bus) (o : BitVec 6) : Byte := b.vid[o.toNat]'o.isLt

/-- A register of the sound register file. -/
def sndReg (b : Bus) (o : BitVec 5) : Byte := b.snd[o.toNat]'o.isLt

/-- An alarm shadow of a timer chip. -/
def alarmReg (t : TimerChip) (k : BitVec 2) : Byte := t.alarm[k.toNat]'k.isLt

/-- The state with the fault `k` of the opcode byte `op` recorded and everything else as it was (R190). -/
def faultedWith (s : State) (k : FaultKind) (op : Byte) : State :=
  { s with status := .faulted k s.pc op (s.ic + 1) }

/-- `0x0100 + S` (R22). -/
def stackByte (sp : Byte) : Word := BitVec.ofNat 16 (256 + sp.toNat)

/-- The forms of LDA, with their lengths and operand values (R120). -/
def ldaForms (s : State) (nn : Byte) (hhll : Word) : List ValueForm :=
   [⟨.ldaImm nn, 2, none, nn⟩, ⟨.ldaZp nn, 2, some (.zp nn), (s.fetched 2).load (.zp nn)⟩,
    ⟨.ldaZpx nn, 2, some (.zpx nn), (s.fetched 2).load (.zpx nn)⟩,
    ⟨.ldaAbs hhll, 3, some (.abs hhll), (s.fetched 3).load (.abs hhll)⟩,
    ⟨.ldaAbsx hhll, 3, some (.absx hhll), (s.fetched 3).load (.absx hhll)⟩,
    ⟨.ldaAbsy hhll, 3, some (.absy hhll), (s.fetched 3).load (.absy hhll)⟩,
    ⟨.ldaIndx nn, 2, some (.indx nn), (s.fetched 2).load (.indx nn)⟩,
    ⟨.ldaIndy nn, 2, some (.indy nn), (s.fetched 2).load (.indy nn)⟩]

/-- The forms of LDX, with their lengths and operand values (R121). -/
def ldxForms (s : State) (nn : Byte) (hhll : Word) : List ValueForm :=
   [⟨.ldxImm nn, 2, none, nn⟩, ⟨.ldxZp nn, 2, some (.zp nn), (s.fetched 2).load (.zp nn)⟩,
    ⟨.ldxZpy nn, 2, some (.zpy nn), (s.fetched 2).load (.zpy nn)⟩,
    ⟨.ldxAbs hhll, 3, some (.abs hhll), (s.fetched 3).load (.abs hhll)⟩,
    ⟨.ldxAbsy hhll, 3, some (.absy hhll), (s.fetched 3).load (.absy hhll)⟩]

/-- The forms of LDY, with their lengths and operand values (R122). -/
def ldyForms (s : State) (nn : Byte) (hhll : Word) : List ValueForm :=
   [⟨.ldyImm nn, 2, none, nn⟩, ⟨.ldyZp nn, 2, some (.zp nn), (s.fetched 2).load (.zp nn)⟩,
    ⟨.ldyZpx nn, 2, some (.zpx nn), (s.fetched 2).load (.zpx nn)⟩,
    ⟨.ldyAbs hhll, 3, some (.abs hhll), (s.fetched 3).load (.abs hhll)⟩,
    ⟨.ldyAbsx hhll, 3, some (.absx hhll), (s.fetched 3).load (.absx hhll)⟩]

/-- The forms of ADC, with their lengths and operand values (R134). -/
def adcForms (s : State) (nn : Byte) (hhll : Word) : List ValueForm :=
   [⟨.adcImm nn, 2, none, nn⟩, ⟨.adcZp nn, 2, some (.zp nn), (s.fetched 2).load (.zp nn)⟩,
    ⟨.adcZpx nn, 2, some (.zpx nn), (s.fetched 2).load (.zpx nn)⟩,
    ⟨.adcAbs hhll, 3, some (.abs hhll), (s.fetched 3).load (.abs hhll)⟩,
    ⟨.adcAbsx hhll, 3, some (.absx hhll), (s.fetched 3).load (.absx hhll)⟩,
    ⟨.adcAbsy hhll, 3, some (.absy hhll), (s.fetched 3).load (.absy hhll)⟩,
    ⟨.adcIndx nn, 2, some (.indx nn), (s.fetched 2).load (.indx nn)⟩,
    ⟨.adcIndy nn, 2, some (.indy nn), (s.fetched 2).load (.indy nn)⟩]

/-- The forms of SBC, with their lengths and operand values (R135). -/
def sbcForms (s : State) (nn : Byte) (hhll : Word) : List ValueForm :=
   [⟨.sbcImm nn, 2, none, nn⟩, ⟨.sbcZp nn, 2, some (.zp nn), (s.fetched 2).load (.zp nn)⟩,
    ⟨.sbcZpx nn, 2, some (.zpx nn), (s.fetched 2).load (.zpx nn)⟩,
    ⟨.sbcAbs hhll, 3, some (.abs hhll), (s.fetched 3).load (.abs hhll)⟩,
    ⟨.sbcAbsx hhll, 3, some (.absx hhll), (s.fetched 3).load (.absx hhll)⟩,
    ⟨.sbcAbsy hhll, 3, some (.absy hhll), (s.fetched 3).load (.absy hhll)⟩,
    ⟨.sbcIndx nn, 2, some (.indx nn), (s.fetched 2).load (.indx nn)⟩,
    ⟨.sbcIndy nn, 2, some (.indy nn), (s.fetched 2).load (.indy nn)⟩]

/-- The forms of CMP, with their lengths and operand values (R136). -/
def cmpForms (s : State) (nn : Byte) (hhll : Word) : List ValueForm :=
   [⟨.cmpImm nn, 2, none, nn⟩, ⟨.cmpZp nn, 2, some (.zp nn), (s.fetched 2).load (.zp nn)⟩,
    ⟨.cmpZpx nn, 2, some (.zpx nn), (s.fetched 2).load (.zpx nn)⟩,
    ⟨.cmpAbs hhll, 3, some (.abs hhll), (s.fetched 3).load (.abs hhll)⟩,
    ⟨.cmpAbsx hhll, 3, some (.absx hhll), (s.fetched 3).load (.absx hhll)⟩,
    ⟨.cmpAbsy hhll, 3, some (.absy hhll), (s.fetched 3).load (.absy hhll)⟩,
    ⟨.cmpIndx nn, 2, some (.indx nn), (s.fetched 2).load (.indx nn)⟩,
    ⟨.cmpIndy nn, 2, some (.indy nn), (s.fetched 2).load (.indy nn)⟩]

/-- The forms of CPX, with their lengths and operand values (R137). -/
def cpxForms (s : State) (nn : Byte) (hhll : Word) : List ValueForm :=
   [⟨.cpxImm nn, 2, none, nn⟩, ⟨.cpxZp nn, 2, some (.zp nn), (s.fetched 2).load (.zp nn)⟩,
    ⟨.cpxAbs hhll, 3, some (.abs hhll), (s.fetched 3).load (.abs hhll)⟩]

/-- The forms of CPY, with their lengths and operand values (R138). -/
def cpyForms (s : State) (nn : Byte) (hhll : Word) : List ValueForm :=
   [⟨.cpyImm nn, 2, none, nn⟩, ⟨.cpyZp nn, 2, some (.zp nn), (s.fetched 2).load (.zp nn)⟩,
    ⟨.cpyAbs hhll, 3, some (.abs hhll), (s.fetched 3).load (.abs hhll)⟩]

/-- The forms of AND, with their lengths and operand values (R139). -/
def andForms (s : State) (nn : Byte) (hhll : Word) : List ValueForm :=
   [⟨.andImm nn, 2, none, nn⟩, ⟨.andZp nn, 2, some (.zp nn), (s.fetched 2).load (.zp nn)⟩,
    ⟨.andZpx nn, 2, some (.zpx nn), (s.fetched 2).load (.zpx nn)⟩,
    ⟨.andAbs hhll, 3, some (.abs hhll), (s.fetched 3).load (.abs hhll)⟩,
    ⟨.andAbsx hhll, 3, some (.absx hhll), (s.fetched 3).load (.absx hhll)⟩,
    ⟨.andAbsy hhll, 3, some (.absy hhll), (s.fetched 3).load (.absy hhll)⟩,
    ⟨.andIndx nn, 2, some (.indx nn), (s.fetched 2).load (.indx nn)⟩,
    ⟨.andIndy nn, 2, some (.indy nn), (s.fetched 2).load (.indy nn)⟩]

/-- The forms of ORA, with their lengths and operand values (R140). -/
def oraForms (s : State) (nn : Byte) (hhll : Word) : List ValueForm :=
   [⟨.oraImm nn, 2, none, nn⟩, ⟨.oraZp nn, 2, some (.zp nn), (s.fetched 2).load (.zp nn)⟩,
    ⟨.oraZpx nn, 2, some (.zpx nn), (s.fetched 2).load (.zpx nn)⟩,
    ⟨.oraAbs hhll, 3, some (.abs hhll), (s.fetched 3).load (.abs hhll)⟩,
    ⟨.oraAbsx hhll, 3, some (.absx hhll), (s.fetched 3).load (.absx hhll)⟩,
    ⟨.oraAbsy hhll, 3, some (.absy hhll), (s.fetched 3).load (.absy hhll)⟩,
    ⟨.oraIndx nn, 2, some (.indx nn), (s.fetched 2).load (.indx nn)⟩,
    ⟨.oraIndy nn, 2, some (.indy nn), (s.fetched 2).load (.indy nn)⟩]

/-- The forms of EOR, with their lengths and operand values (R141). -/
def eorForms (s : State) (nn : Byte) (hhll : Word) : List ValueForm :=
   [⟨.eorImm nn, 2, none, nn⟩, ⟨.eorZp nn, 2, some (.zp nn), (s.fetched 2).load (.zp nn)⟩,
    ⟨.eorZpx nn, 2, some (.zpx nn), (s.fetched 2).load (.zpx nn)⟩,
    ⟨.eorAbs hhll, 3, some (.abs hhll), (s.fetched 3).load (.abs hhll)⟩,
    ⟨.eorAbsx hhll, 3, some (.absx hhll), (s.fetched 3).load (.absx hhll)⟩,
    ⟨.eorAbsy hhll, 3, some (.absy hhll), (s.fetched 3).load (.absy hhll)⟩,
    ⟨.eorIndx nn, 2, some (.indx nn), (s.fetched 2).load (.indx nn)⟩,
    ⟨.eorIndy nn, 2, some (.indy nn), (s.fetched 2).load (.indy nn)⟩]

/-- The forms of BIT, with their lengths and operand values (R142). -/
def bitForms (s : State) (nn : Byte) (hhll : Word) : List ValueForm :=
   [⟨.bitZp nn, 2, some (.zp nn), (s.fetched 2).load (.zp nn)⟩,
    ⟨.bitAbs hhll, 3, some (.abs hhll), (s.fetched 3).load (.abs hhll)⟩]

/-- The memory forms of STA, with their lengths and operands (R123). -/
def staForms (nn : Byte) (hhll : Word) : List MemoryForm :=
   [⟨.staZp nn, 2, .zp nn⟩, ⟨.staZpx nn, 2, .zpx nn⟩, ⟨.staAbs hhll, 3, .abs hhll⟩,
    ⟨.staAbsx hhll, 3, .absx hhll⟩, ⟨.staAbsy hhll, 3, .absy hhll⟩, ⟨.staIndx nn, 2, .indx nn⟩,
    ⟨.staIndy nn, 2, .indy nn⟩]

/-- The memory forms of STX, with their lengths and operands (R124). -/
def stxForms (nn : Byte) (hhll : Word) : List MemoryForm :=
   [⟨.stxZp nn, 2, .zp nn⟩, ⟨.stxZpy nn, 2, .zpy nn⟩, ⟨.stxAbs hhll, 3, .abs hhll⟩]

/-- The memory forms of STY, with their lengths and operands (R125). -/
def styForms (nn : Byte) (hhll : Word) : List MemoryForm :=
   [⟨.styZp nn, 2, .zp nn⟩, ⟨.styZpx nn, 2, .zpx nn⟩, ⟨.styAbs hhll, 3, .abs hhll⟩]

/-- The memory forms of INC, with their lengths and operands (R143). -/
def incForms (nn : Byte) (hhll : Word) : List MemoryForm :=
   [⟨.incZp nn, 2, .zp nn⟩, ⟨.incZpx nn, 2, .zpx nn⟩, ⟨.incAbs hhll, 3, .abs hhll⟩,
    ⟨.incAbsx hhll, 3, .absx hhll⟩]

/-- The memory forms of DEC, with their lengths and operands (R144). -/
def decForms (nn : Byte) (hhll : Word) : List MemoryForm :=
   [⟨.decZp nn, 2, .zp nn⟩, ⟨.decZpx nn, 2, .zpx nn⟩, ⟨.decAbs hhll, 3, .abs hhll⟩,
    ⟨.decAbsx hhll, 3, .absx hhll⟩]

/-- The memory forms of ASL, with their lengths and operands (R152). -/
def aslForms (nn : Byte) (hhll : Word) : List MemoryForm :=
   [⟨.aslZp nn, 2, .zp nn⟩, ⟨.aslZpx nn, 2, .zpx nn⟩, ⟨.aslAbs hhll, 3, .abs hhll⟩,
    ⟨.aslAbsx hhll, 3, .absx hhll⟩]

/-- The memory forms of LSR, with their lengths and operands (R153). -/
def lsrForms (nn : Byte) (hhll : Word) : List MemoryForm :=
   [⟨.lsrZp nn, 2, .zp nn⟩, ⟨.lsrZpx nn, 2, .zpx nn⟩, ⟨.lsrAbs hhll, 3, .abs hhll⟩,
    ⟨.lsrAbsx hhll, 3, .absx hhll⟩]

/-- The memory forms of ROL, with their lengths and operands (R154). -/
def rolForms (nn : Byte) (hhll : Word) : List MemoryForm :=
   [⟨.rolZp nn, 2, .zp nn⟩, ⟨.rolZpx nn, 2, .zpx nn⟩, ⟨.rolAbs hhll, 3, .abs hhll⟩,
    ⟨.rolAbsx hhll, 3, .absx hhll⟩]

/-- The memory forms of ROR, with their lengths and operands (R155). -/
def rorForms (nn : Byte) (hhll : Word) : List MemoryForm :=
   [⟨.rorZp nn, 2, .zp nn⟩, ⟨.rorZpx nn, 2, .zpx nn⟩, ⟨.rorAbs hhll, 3, .abs hhll⟩,
    ⟨.rorAbsx hhll, 3, .absx hhll⟩]

/-- Every form that stores to memory at its effective address without changing a register but P. -/
def storingForms (nn : Byte) (hhll : Word) : List MemoryForm :=
  staForms nn hhll ++ stxForms nn hhll ++ styForms nn hhll ++ incForms nn hhll ++ decForms nn hhll ++
    aslForms nn hhll ++ lsrForms nn hhll ++ rolForms nn hhll ++ rorForms nn hhll

/-- The instructions of mode zp (R108). -/
def zpInstrs (nn : Byte) : List Instr :=
   [.oraZp nn, .aslZp nn, .bitZp nn, .andZp nn, .rolZp nn, .eorZp nn, .lsrZp nn, .adcZp nn, .rorZp nn, .styZp nn,
    .staZp nn, .stxZp nn, .ldyZp nn, .ldaZp nn, .ldxZp nn, .cpyZp nn, .cmpZp nn, .decZp nn, .cpxZp nn, .sbcZp nn,
    .incZp nn]

/-- The instructions of mode zpx (R109). -/
def zpxInstrs (nn : Byte) : List Instr :=
   [.oraZpx nn, .aslZpx nn, .andZpx nn, .rolZpx nn, .eorZpx nn, .lsrZpx nn, .adcZpx nn, .rorZpx nn, .styZpx nn,
    .staZpx nn, .ldyZpx nn, .ldaZpx nn, .cmpZpx nn, .decZpx nn, .sbcZpx nn, .incZpx nn]

/-- The instructions of mode zpy (R110). -/
def zpyInstrs (nn : Byte) : List Instr :=
   [.stxZpy nn, .ldxZpy nn]

/-- The instructions of mode absx (R112). -/
def absxInstrs (hhll : Word) : List Instr :=
   [.oraAbsx hhll, .aslAbsx hhll, .andAbsx hhll, .rolAbsx hhll, .eorAbsx hhll, .lsrAbsx hhll, .adcAbsx hhll,
    .rorAbsx hhll, .staAbsx hhll, .ldyAbsx hhll, .ldaAbsx hhll, .cmpAbsx hhll, .decAbsx hhll, .sbcAbsx hhll,
    .incAbsx hhll]

/-- The instructions of mode absy (R113). -/
def absyInstrs (hhll : Word) : List Instr :=
   [.oraAbsy hhll, .andAbsy hhll, .eorAbsy hhll, .adcAbsy hhll, .staAbsy hhll, .ldaAbsy hhll, .ldxAbsy hhll,
    .cmpAbsy hhll, .sbcAbsy hhll]

/-- The instructions of mode indx (R116). -/
def indxInstrs (nn : Byte) : List Instr :=
   [.oraIndx nn, .andIndx nn, .eorIndx nn, .adcIndx nn, .staIndx nn, .ldaIndx nn, .cmpIndx nn, .sbcIndx nn]

/-- The instructions of mode indy (R117). -/
def indyInstrs (nn : Byte) : List Instr :=
   [.oraIndy nn, .andIndy nn, .eorIndy nn, .adcIndy nn, .staIndy nn, .ldaIndy nn, .cmpIndy nn, .sbcIndy nn]

/-- The instructions that write A, as R19 lists them. -/
def writesA (i : Instr) : Bool :=
  match i with
  | .ldaImm _ | .ldaZp _ | .ldaZpx _ | .ldaAbs _ | .ldaAbsx _ | .ldaAbsy _ | .ldaIndx _ | .ldaIndy _ | .pla
  | .txa | .tya | .adcImm _ | .adcZp _ | .adcZpx _ | .adcAbs _ | .adcAbsx _ | .adcAbsy _ | .adcIndx _
  | .adcIndy _ | .sbcImm _ | .sbcZp _ | .sbcZpx _ | .sbcAbs _ | .sbcAbsx _ | .sbcAbsy _ | .sbcIndx _
  | .sbcIndy _ | .andImm _ | .andZp _ | .andZpx _ | .andAbs _ | .andAbsx _ | .andAbsy _ | .andIndx _
  | .andIndy _ | .oraImm _ | .oraZp _ | .oraZpx _ | .oraAbs _ | .oraAbsx _ | .oraAbsy _ | .oraIndx _
  | .oraIndy _ | .eorImm _ | .eorZp _ | .eorZpx _ | .eorAbs _ | .eorAbsx _ | .eorAbsy _ | .eorIndx _
  | .eorIndy _ | .aslAcc | .lsrAcc | .rolAcc | .rorAcc => true
  | _ => false

/-- The instructions that write X, as R20 lists them. -/
def writesX (i : Instr) : Bool :=
  match i with
  | .ldxImm _ | .ldxZp _ | .ldxZpy _ | .ldxAbs _ | .ldxAbsy _ | .tax | .tsx | .inx | .dex => true
  | _ => false

/-- The instructions that write Y, as R21 lists them. -/
def writesY (i : Instr) : Bool :=
  match i with
  | .ldyImm _ | .ldyZp _ | .ldyZpx _ | .ldyAbs _ | .ldyAbsx _ | .tay | .iny | .dey => true
  | _ => false

/-- The instructions that write S: TXS and every push and pull (R22). -/
def writesS (i : Instr) : Bool :=
  match i with
  | .txs | .pha | .php | .pla | .plp | .jsr _ | .rts => true
  | _ => false

/-- The instructions that make a bus write: stores, read-modify-write forms, pushes (R51). -/
def writesMemory (i : Instr) : Bool :=
  match i with
  | .staZp _ | .staZpx _ | .staAbs _ | .staAbsx _ | .staAbsy _ | .staIndx _ | .staIndy _ | .stxZp _ | .stxZpy _
  | .stxAbs _ | .styZp _ | .styZpx _ | .styAbs _ | .incZp _ | .incZpx _ | .incAbs _ | .incAbsx _ | .decZp _
  | .decZpx _ | .decAbs _ | .decAbsx _ | .aslZp _ | .aslZpx _ | .aslAbs _ | .aslAbsx _ | .lsrZp _ | .lsrZpx _
  | .lsrAbs _ | .lsrAbsx _ | .rolZp _ | .rolZpx _ | .rolAbs _ | .rolAbsx _ | .rorZp _ | .rorZpx _ | .rorAbs _
  | .rorAbsx _ | .pha | .php | .jsr _ => true
  | _ => false

/-- The instructions that write C, as R26 lists them. -/
def writesC (i : Instr) : Bool :=
  match i with
  | .adcImm _ | .adcZp _ | .adcZpx _ | .adcAbs _ | .adcAbsx _ | .adcAbsy _ | .adcIndx _ | .adcIndy _
  | .sbcImm _ | .sbcZp _ | .sbcZpx _ | .sbcAbs _ | .sbcAbsx _ | .sbcAbsy _ | .sbcIndx _ | .sbcIndy _
  | .cmpImm _ | .cmpZp _ | .cmpZpx _ | .cmpAbs _ | .cmpAbsx _ | .cmpAbsy _ | .cmpIndx _ | .cmpIndy _
  | .cpxImm _ | .cpxZp _ | .cpxAbs _ | .cpyImm _ | .cpyZp _ | .cpyAbs _ | .aslAcc | .aslZp _ | .aslZpx _
  | .aslAbs _ | .aslAbsx _ | .lsrAcc | .lsrZp _ | .lsrZpx _ | .lsrAbs _ | .lsrAbsx _ | .rolAcc | .rolZp _
  | .rolZpx _ | .rolAbs _ | .rolAbsx _ | .rorAcc | .rorZp _ | .rorZpx _ | .rorAbs _ | .rorAbsx _ | .clc | .sec
  | .plp => true
  | _ => false

/-- The instructions that write V, as R32 lists them. -/
def writesV (i : Instr) : Bool :=
  match i with
  | .adcImm _ | .adcZp _ | .adcZpx _ | .adcAbs _ | .adcAbsx _ | .adcAbsy _ | .adcIndx _ | .adcIndy _
  | .sbcImm _ | .sbcZp _ | .sbcZpx _ | .sbcAbs _ | .sbcAbsx _ | .sbcAbsy _ | .sbcIndx _ | .sbcIndy _ | .bitZp _
  | .bitAbs _ | .clv | .plp => true
  | _ => false

/-- The instructions that write N and Z: those whose rules call SetNZ, BIT, and PLP (R27, R33). -/
def writesNZ (i : Instr) : Bool :=
  match i with
  | .ldaImm _ | .ldaZp _ | .ldaZpx _ | .ldaAbs _ | .ldaAbsx _ | .ldaAbsy _ | .ldaIndx _ | .ldaIndy _
  | .ldxImm _ | .ldxZp _ | .ldxZpy _ | .ldxAbs _ | .ldxAbsy _ | .ldyImm _ | .ldyZp _ | .ldyZpx _ | .ldyAbs _
  | .ldyAbsx _ | .tax | .tay | .txa | .tya | .tsx | .adcImm _ | .adcZp _ | .adcZpx _ | .adcAbs _ | .adcAbsx _
  | .adcAbsy _ | .adcIndx _ | .adcIndy _ | .sbcImm _ | .sbcZp _ | .sbcZpx _ | .sbcAbs _ | .sbcAbsx _
  | .sbcAbsy _ | .sbcIndx _ | .sbcIndy _ | .cmpImm _ | .cmpZp _ | .cmpZpx _ | .cmpAbs _ | .cmpAbsx _
  | .cmpAbsy _ | .cmpIndx _ | .cmpIndy _ | .cpxImm _ | .cpxZp _ | .cpxAbs _ | .cpyImm _ | .cpyZp _ | .cpyAbs _
  | .andImm _ | .andZp _ | .andZpx _ | .andAbs _ | .andAbsx _ | .andAbsy _ | .andIndx _ | .andIndy _
  | .oraImm _ | .oraZp _ | .oraZpx _ | .oraAbs _ | .oraAbsx _ | .oraAbsy _ | .oraIndx _ | .oraIndy _
  | .eorImm _ | .eorZp _ | .eorZpx _ | .eorAbs _ | .eorAbsx _ | .eorAbsy _ | .eorIndx _ | .eorIndy _ | .bitZp _
  | .bitAbs _ | .incZp _ | .incZpx _ | .incAbs _ | .incAbsx _ | .decZp _ | .decZpx _ | .decAbs _ | .decAbsx _
  | .inx | .iny | .dex | .dey | .aslAcc | .aslZp _ | .aslZpx _ | .aslAbs _ | .aslAbsx _ | .lsrAcc | .lsrZp _
  | .lsrZpx _ | .lsrAbs _ | .lsrAbsx _ | .rolAcc | .rolZp _ | .rolZpx _ | .rolAbs _ | .rolAbsx _ | .rorAcc
  | .rorZp _ | .rorZpx _ | .rorAbs _ | .rorAbsx _ | .pla | .plp => true
  | _ => false

end Sys2Proof.Claims

open Sys2Proof Sys2Proof.Machine Sys2Proof.Claims

/-- For words the spec writes out byte by byte, at least one of every family, the decoder reads the instruction named there and leaves no byte over (30_encoding.md section 3 (the opcode map), 95_test_vectors.md sections 2 and 3). -/
def Obligations.SpecWordsDecode : Prop :=
  decode [0xA9, 0x05] = some (.ldaImm 0x05, []) ∧ decode [0x85, 0x00] = some (.staZp 0x00, []) ∧
  decode [0xB6, 0xF0] = some (.ldxZpy 0xF0, []) ∧ decode [0x8D, 0x00, 0xA0] = some (.staAbs 0xA000, []) ∧
  decode [0xAA] = some (.tax, []) ∧ decode [0x69, 0x50] = some (.adcImm 0x50, []) ∧
  decode [0xB9, 0xF0, 0xC0] = some (.ldaAbsy 0xC0F0, []) ∧ decode [0xBD, 0xFF, 0xFF] = some (.ldaAbsx 0xFFFF, []) ∧
  decode [0xA1, 0x20] = some (.ldaIndx 0x20, []) ∧ decode [0xB1, 0x40] = some (.ldaIndy 0x40, []) ∧
  decode [0xEE, 0x00, 0xA0] = some (.incAbs 0xA000, []) ∧ decode [0x24, 0x10] = some (.bitZp 0x10, []) ∧
  decode [0x0A] = some (.aslAcc, []) ∧ decode [0x66, 0x10] = some (.rorZp 0x10, []) ∧
  decode [0xD0, 0xFB] = some (.bne 0xFB, []) ∧ decode [0x20, 0x00, 0xC1] = some (.jsr 0xC100, []) ∧
  decode [0x6C, 0xFF, 0xC1] = some (.jmpInd 0xC1FF, []) ∧ decode [0x60] = some (.rts, []) ∧
  decode [0x48] = some (.pha, []) ∧ decode [0xF8] = some (.sed, []) ∧ decode [0x00] = some (.brk, []) ∧
  decode [0x02] = none ∧ decode [0xFF] = none

/-- For every instruction with every operand, the decoder reads it from its encoding followed by any bytes and leaves exactly those bytes (30_encoding.md sections 1 to 3). -/
def Obligations.DecodeOfEncode : Prop :=
  ∀ (i : Instr) (rest : List Byte), decode (encode i ++ rest) = some (i, rest)

/-- Whenever the decoder reads an instruction, the bytes it read are the encoding of that instruction and the bytes left over are the rest: each word has one meaning (30_encoding.md sections 1 to 3). -/
def Obligations.EncodeOfDecode : Prop :=
  ∀ (bytes : List Byte) (i : Instr) (rest : List Byte), decode bytes = some (i, rest) → bytes = encode i ++ rest

/-- A string of bytes whose first byte is none of the 105 illegal bytes and whose length is the one of its mode is the encoding of an instruction, and every encoding is such a string, of length 1, 2 or 3 (30_encoding.md sections 1, 3 and 4). -/
def Obligations.LegalBytesAreTheEncodings : Prop :=
  (∀ bytes : List Byte, encodingWf bytes = true ↔ ∃ i, bytes = encode i) ∧
    ∀ i : Instr, (encode i).length = 1 ∨ (encode i).length = 2 ∨ (encode i).length = 3

/-- In a running state whose bytes at PC, PC + 1 and PC + 2 (wrapping modulo 65536) decode to an instruction, step is exec of that instruction at that state, with nothing around it; and in every state each of those reads, like every other, is a bus read of its address (60_exceptions.md section 1). -/
def Obligations.StepRunsTheDecodedInstruction : Prop :=
  (∀ s : State, ReadsTheBus s) ∧
  ∀ (s : State) (i : Instr) (rest : List Byte), s.status = .running →
    decode [s.read .opcode s.pc, s.read .operand1 (s.pc + 1), s.read .operand2 (s.pc + 2)] = some (i, rest) →
    step s = exec i s

/-- In a running state whose opcode byte is one of the 105 empty table entries, no operand byte is fetched and the step leaves the state as it was with STATUS = Faulted(UnknownOpcode, address of the opcode byte, the byte, IC + 1); the code is 1 (R192). -/
def Obligations.IllegalOpcodesAreFatal : Prop :=
  illegalOpcodes.length = 105 ∧ illegalOpcodes.Nodup ∧ FaultKind.unknownOpcode.code = 1 ∧
    ∀ s : State, s.status = .running → s.read .opcode s.pc ∈ illegalOpcodes →
      s.fetchBytes = [s.read .opcode s.pc] ∧
        step s = .next (faultedWith s .unknownOpcode (s.read .opcode s.pc))

/-- Whenever a step of any state answers a state that is not running, that state is the one before the opcode fetch with STATUS recording a kind, the address of the opcode byte, the opcode byte and IC + 1; a Faulted state has no step and is no successful end of a run (R190). -/
def Obligations.AFaultLeavesEverythingElse : Prop :=
  (∀ s t : State, step s = .next t → t.status ≠ .running →
    ∃ k, t = faultedWith s k (s.read .opcode s.pc)) ∧
  ∀ (s : State) (k : FaultKind) (pc : Word) (op : Byte) (n : Nat), s.status = .faulted k pc op n →
    step s = .fault (.halted k pc op n) ∧ ∀ stopPc, s.endedAt stopPc = false

/-- When an instruction run in a running state answers a state, that state is Faulted with kind k exactly when k is Unsupported (code 2) and the instruction BRK or RTI, or k is StackOverflow (code 3) with PHA or PHP at S = 0 or JSR at S = 0 or 1, or k is StackUnderflow (code 4) with PLA or PLP at S = 0xFF or RTS at S = 0xFE or 0xFF; and then everything but STATUS, S among it, is as before and STATUS records the opcode address and byte (R191, R193, R194). -/
def Obligations.FaultsHappenExactlyAtTheirCauses : Prop :=
  FaultKind.unsupported.code = 2 ∧ FaultKind.stackOverflow.code = 3 ∧ FaultKind.stackUnderflow.code = 4 ∧
    ∀ (i : Instr) (s t : State) (k : FaultKind), s.status = .running → exec i s = .next t →
      let cause :=
        (k = .unsupported ∧ (i = .brk ∨ i = .rti)) ∨
        (k = .stackOverflow ∧ (i = .pha ∨ i = .php) ∧ s.sp = 0x00) ∨
        (k = .stackOverflow ∧ (∃ hhll, i = .jsr hhll) ∧ (s.sp = 0x00 ∨ s.sp = 0x01)) ∨
        (k = .stackUnderflow ∧ (i = .pla ∨ i = .plp) ∧ s.sp = 0xFF) ∨
        (k = .stackUnderflow ∧ i = .rts ∧ (s.sp = 0xFE ∨ s.sp = 0xFF))
      ((∃ pc op n, t.status = .faulted k pc op n) ↔ cause) ∧
        (cause → t = faultedWith s k ((encode i).headD 0))

/-- A step that answers a running state leaves IC one more; a step that answers a Faulted state leaves IC as it was (10_state.md section 3, 60_exceptions.md sections 2 and 7). -/
def Obligations.TheInstructionCounterCountsCompletedSteps : Prop :=
  ∀ s t : State, step s = .next t →
    (t.status = .running → t.ic = s.ic + 1) ∧ (t.status ≠ .running → t.ic = s.ic)

/-- For every launch, power-on leaves S = 0xFF, P = 0x00 with every flag and bit 5 clear, IC = 0, STATUS = Running, PC the little-endian word the bus reads at $FFFC and $FFFD whatever the draws (in the KERNAL image when bit 1 of RESET_PORT is set), and A, X, Y, everything behind the bus and the parameters at the values the launch gives; CYC too, which is the model's choice (the spec leaves its value unspecified, log entry 12) (R207, R208, R209, R210, R211, R212, R213, log entry 12). -/
def Obligations.PowerOnState : Prop :=
  ∀ (p : PowerOn) (d : Byte),
    let s := State.powerOn p
    s.sp = 0xFF ∧ s.p = 0x00 ∧ (∀ f, getFlag s.p f = false) ∧ s.p.getLsbD 5 = false ∧
      s.ic = 0 ∧ s.status = .running ∧ s.bus = p.bus ∧ s.a = p.a ∧ s.x = p.x ∧ s.y = p.y ∧ s.cyc = p.cyc ∧
      s.params = p.params ∧
      s.pc.toNat = 256 * (p.bus.read d 0xFFFD).toNat + (p.bus.read d 0xFFFC).toNat ∧
      (p.bus.port.getLsbD 1 = true →
        s.pc.toNat = 256 * (p.bus.kernalRom.read 0x1FFD).toNat + (p.bus.kernalRom.read 0x1FFC).toNat)

/-- Power-on with three byte strings gives no machine exactly when a length is wrong; otherwise cell n of each ROM reads as byte n of its image and the rest of the launch is as given (70_reset_and_hazards.md section 2, 00_scope.md section 3). -/
def Obligations.RomImagesMustHaveTheirSizes : Prop :=
  ∀ (p : PowerOn) (char basic kernal : List Byte),
    (p.withRoms char basic kernal = none ↔
      ¬(char.length = 4096 ∧ basic.length = 8192 ∧ kernal.length = 8192)) ∧
    ∀ q, p.withRoms char basic kernal = some q →
      (∀ n, q.bus.charRom.read n = char.getD n 0) ∧ (∀ n, q.bus.basicRom.read n = basic.getD n 0) ∧
      (∀ n, q.bus.kernalRom.read n = kernal.getD n 0) ∧
      q = { p with bus := { p.bus with
              charRom := q.bus.charRom, basicRom := q.bus.basicRom, kernalRom := q.bus.kernalRom } }

/-- State.reset is running with canonical memories, meets the constraints on the launch, and has PC = $C000 with (BASIC, IO, KERNAL) banked in; the ROM image and DDR, PORT are the model's choice (log entries 4 and 7) (70_reset_and_hazards.md section 1, 95_test_vectors.md section 2.8). -/
def Obligations.ResetMeetsTheInvariant : Prop :=
  State.reset.wf = true ∧ PowerOn.simulator.wf = true ∧ State.reset.status = .running ∧ State.reset.pc = 0xC000 ∧
    State.reset.bus.bank = { a := .basic, d := .io, e := .kernal }

/-- From every state whose stores are canonical (addresses strictly rising below the size of the store, no listed value equal to the unlisted one), whatever a step answers as a next state has canonical stores too (10_state.md section 5, 20_memory.md section 3). -/
def Obligations.StepKeepsTheMemoriesCanonical : Prop :=
  ∀ s t : State, s.wf = true → step s = .next t → t.wf = true

/-- Canonical stores of one size whose cells all read the same are equal, so equal memories are equal data (10_state.md section 5). -/
def Obligations.EqualCellsMakeEqualStores : Prop :=
  ∀ (w size : Nat) (m n : Store w), m.wf size = true → n.wf size = true → (∀ a, m.read a = n.read a) → m = n

/-- Whatever a step answers as a next state, the three ROM images, the parameters PHP_OR, JMP_IND_PAGE_WRAP and ZP_PTR_WRAP, CYC (held constant by the model, log entry 12), and the cells VID[0x12], VID[0x19], VID[0x1E] and VID[0x1F] are those of the state before, and bit 7 of VID[0x11] stays 0 once it is 0 (10_state.md sections 3 and 5, 20_memory.md section 5, 00_scope.md section 3). -/
def Obligations.StepKeepsWhatNothingWrites : Prop :=
  ∀ s t : State, step s = .next t →
    t.bus.charRom = s.bus.charRom ∧ t.bus.basicRom = s.bus.basicRom ∧ t.bus.kernalRom = s.bus.kernalRom ∧
      t.params = s.params ∧ t.cyc = s.cyc ∧
      vidReg t.bus 0x12 = vidReg s.bus 0x12 ∧ vidReg t.bus 0x19 = vidReg s.bus 0x19 ∧
      vidReg t.bus 0x1E = vidReg s.bus 0x1E ∧ vidReg t.bus 0x1F = vidReg s.bus 0x1F ∧
      ((vidReg s.bus 0x11).getLsbD 7 = false → (vidReg t.bus 0x11).getLsbD 7 = false)

/-- BANK.A is BASIC exactly when m[1:0] = 0b11 and else RAM; BANK.E is KERNAL exactly when m[1] = 1 and else RAM; BANK.D is RAM when m[1:0] = 0b00, else IO when m[2] = 1, else CHAR (R54). -/
def Obligations.BankOfThePort : Prop :=
  ∀ m : BitVec 3,
    (bankOf m).a = (if m.toNat % 4 = 3 then .basic else .ram) ∧
    (bankOf m).e = (if m.getLsbD 1 then .kernal else .ram) ∧
    (bankOf m).d = (if m.toNat % 4 = 0 then .ram else if m.getLsbD 2 then .io else .char)

/-- A read of $00 gives DDR and a read of $01 the stored PORT, and no read of any address depends on RAM[0] or RAM[1]; a write of v to $00 stores v in DDR and changes nothing else; a write of v to $01 stores v & DDR in PORT, changes nothing else, and BANK is then BankOf of the low three bits of that value (R57, R58, R59). -/
def Obligations.ProcessorPortAccesses : Prop :=
  ∀ (b : Bus) (d v : Byte),
    b.read d 0x0000 = b.ddr ∧ b.read d 0x0001 = b.port ∧
      (∀ (n : Nat) (u : Byte) (addr : Word), n ≤ 1 → Bus.read { b with ram := b.ram.write n u } d addr = b.read d addr) ∧
      b.write 0x0000 v = { b with ddr := v } ∧ (b.write 0x0000 v).bank = b.bank ∧
      b.write 0x0001 v = { b with port := v &&& b.ddr } ∧
      (b.write 0x0001 v).bank = bankOf (BitVec.ofNat 3 (v &&& b.ddr).toNat)

/-- For every address but $0001, DDR's among them, a bus write leaves the stored PORT, and so BANK, as it was (R60). -/
def Obligations.OnlyAPortWriteChangesTheBank : Prop :=
  ∀ (b : Bus) (addr : Word) (v : Byte), addr ≠ 0x0001 →
    (b.write addr v).port = b.port ∧ (b.write addr v).bank = b.bank

/-- At an address in $0002-$9FFF or $C000-$CFFF a read gives the RAM cell, a write changes that RAM cell and nothing else, and a read after the write gives the value written (R84). -/
def Obligations.DirectRamReadsAndWrites : Prop :=
  ∀ (b : Bus) (d : Byte) (addr : Word) (v : Byte), b.wf = true →
    (2 ≤ addr.toNat ∧ addr.toNat ≤ 0x9FFF ∨ 0xC000 ≤ addr.toNat ∧ addr.toNat ≤ 0xCFFF) →
    b.read d addr = b.ram.read addr.toNat ∧
      b.write addr v = { b with ram := b.ram.write addr.toNat v } ∧
      (b.write addr v).read d addr = v ∧
      ∀ n, n ≠ addr.toNat → (b.write addr v).ram.read n = b.ram.read n

/-- For every address written but $0001 and every other address that is answered by a different cell than the one written, and for every address but the one written when the cell written is RAM, a read after the write gives what it gave before (20_memory.md sections 2, 3 and 5). -/
def Obligations.AWriteTouchesOnlyItsCell : Prop :=
  ∀ (b : Bus) (d : Byte) (a c : Word) (v : Byte),
    (a ≠ 0x0001 → readCell b.bank c ≠ writeCell b.bank a → (b.write a v).read d c = b.read d c) ∧
    (∀ n, writeCell b.bank a = .ram n → c ≠ a → (b.write a v).read d c = b.read d c)

/-- At every address in $A000-$BFFF or $E000-$FFFF under every bank state, and at every address in $D000-$DFFF while BANK.D is RAM or CHAR, a write changes exactly the RAM cell of that address, and under every port value whose bank state shows RAM there a read then gives the value written; while BANK.D is IO, a write to $D000-$DFFF goes to the cell of the I/O sub-decode and leaves all RAM as it was outside $DBE8-$DBFF (R63, R65, R67). -/
def Obligations.WritesUnderRomGoToRam : Prop :=
  ∀ (b : Bus) (d : Byte) (addr : Word) (v q : Byte), b.wf = true →
    let n := addr.toNat
    let shown := ({ b.write addr v with port := q } : Bus)
    ((0xA000 ≤ n ∧ n ≤ 0xBFFF ∨ 0xE000 ≤ n ∨ (0xD000 ≤ n ∧ n ≤ 0xDFFF ∧ b.bank.d ≠ .io)) →
      b.write addr v = { b with ram := b.ram.write n v } ∧ (b.write addr v).ram.read n = v ∧
        (n ≤ 0xBFFF → shown.bank.a = .ram → shown.read d addr = v) ∧
        (0xD000 ≤ n ∧ n ≤ 0xDFFF → shown.bank.d = .ram → shown.read d addr = v) ∧
        (0xE000 ≤ n → shown.bank.e = .ram → shown.read d addr = v)) ∧
    (0xD000 ≤ n ∧ n ≤ 0xDFFF ∧ b.bank.d = .io →
      b.write addr v = b.writeAt (ioCell addr) v ∧
        (n < 0xDBE8 ∨ 0xDBFF < n → (b.write addr v).ram = b.ram))

/-- A read of $A000-$BFFF gives the BASIC image's byte when BANK.A = BASIC and the RAM cell otherwise; of $E000-$FFFF the KERNAL image's byte when BANK.E = KERNAL and else the RAM cell; of $D000-$DFFF the RAM cell, the Character image's byte, or the cell of the I/O sub-decode as BANK.D says (R62, R64, R66). -/
def Obligations.WindowReads : Prop :=
  ∀ (b : Bus) (d : Byte) (addr : Word),
    (0xA000 ≤ addr.toNat ∧ addr.toNat ≤ 0xBFFF → b.read d addr =
      if b.bank.a = .basic then b.basicRom.read (addr.toNat - 0xA000) else b.ram.read addr.toNat) ∧
    (0xE000 ≤ addr.toNat → b.read d addr =
      if b.bank.e = .kernal then b.kernalRom.read (addr.toNat - 0xE000) else b.ram.read addr.toNat) ∧
    (0xD000 ≤ addr.toNat ∧ addr.toNat ≤ 0xDFFF →
      (b.bank.d = .ram → b.read d addr = b.ram.read addr.toNat) ∧
      (b.bank.d = .char → b.read d addr = b.charRom.read (addr.toNat - 0xD000)) ∧
      (b.bank.d = .io → b.read d addr = b.readAt d (ioCell addr)))

/-- $D000-$D3FF is the video register at the address modulo 64, $D400-$D7FF the sound register modulo 32, $D800-$DBE7 the colour cell at the address less $D800, $DBE8-$DBFF RAM, $DC00-$DCFF timer chip #1 and $DD00-$DDFF timer chip #2 modulo 16, $DE00-$DFFF the expansion pages (20_memory.md section 5). -/
def Obligations.IoSubDecode : Prop :=
  ∀ addr : Word,
    (0xD000 ≤ addr.toNat ∧ addr.toNat ≤ 0xD3FF → ioCell addr = .vid (BitVec.ofNat 6 (addr.toNat % 64))) ∧
    (0xD400 ≤ addr.toNat ∧ addr.toNat ≤ 0xD7FF → ioCell addr = .snd (BitVec.ofNat 5 (addr.toNat % 32))) ∧
    (0xD800 ≤ addr.toNat ∧ addr.toNat ≤ 0xDBE7 → ioCell addr = .color (addr.toNat - 0xD800)) ∧
    (0xDBE8 ≤ addr.toNat ∧ addr.toNat ≤ 0xDBFF → ioCell addr = .ram addr.toNat) ∧
    (0xDC00 ≤ addr.toNat ∧ addr.toNat ≤ 0xDCFF → ioCell addr = .tc1 (BitVec.ofNat 4 (addr.toNat % 16))) ∧
    (0xDD00 ≤ addr.toNat ∧ addr.toNat ≤ 0xDDFF → ioCell addr = .tc2 (BitVec.ofNat 4 (addr.toNat % 16))) ∧
    (0xDE00 ≤ addr.toNat ∧ addr.toNat ≤ 0xDFFF → ioCell addr = .expansion)

/-- With I/O banked in, a bus read or write of $D000-$D3FF is the video read or write of the offset that is the address modulo 64. Every offset but 0x12 reads its cell and 0x12 reads the draw; a write of 0x11 stores the low seven bits and moves bit 7 into bit 8 of the raster latch; of 0x12 the low byte of the latch and no cell; of 0x19, 0x1E, 0x1F nothing; of every other offset the cell (R69, R70, R71, R72, R73). -/
def Obligations.VideoRegisterRules : Prop :=
  (∀ (b : Bus) (d : Byte) (addr : Word) (v : Byte), b.bank.d = .io → 0xD000 ≤ addr.toNat ∧ addr.toNat ≤ 0xD3FF →
    let o := BitVec.ofNat 6 (addr.toNat % 64)
    b.read d addr = b.vidRead d o ∧ b.write addr v = b.vidWrite o v) ∧
  ∀ (b : Bus) (o : BitVec 6) (v d : Byte),
    (o.toNat ≠ 0x12 → b.vidRead d o = vidReg b o) ∧ (o.toNat = 0x12 → b.vidRead d o = d) ∧
    (o.toNat = 0x11 →
      (b.vidWrite o v).rlatch.toNat = 256 * (v.toNat / 128) + b.rlatch.toNat % 256 ∧
      ((b.vidWrite o v).vidRead d o).toNat = v.toNat % 128) ∧
    (o.toNat = 0x12 → b.vidWrite o v = { b with rlatch := (b.vidWrite o v).rlatch } ∧
      (b.vidWrite o v).rlatch.toNat = 256 * (b.rlatch.toNat / 256) + v.toNat) ∧
    (o.toNat = 0x19 ∨ o.toNat = 0x1E ∨ o.toNat = 0x1F → b.vidWrite o v = b) ∧
    (o.toNat ∉ [0x11, 0x12, 0x19, 0x1E, 0x1F] → vidReg (b.vidWrite o v) o = v ∧ (b.vidWrite o v).rlatch = b.rlatch) ∧
    (∀ c, c ≠ o → vidReg (b.vidWrite o v) c = vidReg b c) ∧
    b.vidWrite o v = { b with vid := (b.vidWrite o v).vid, rlatch := (b.vidWrite o v).rlatch }

/-- With I/O banked in, a read of $D400-$D7FF gives the sound register at the address modulo 32 and a write changes that register alone; a read of $DE00-$DFFF gives 0 and a write changes nothing (R74, R83). -/
def Obligations.SoundAndExpansionPages : Prop :=
  ∀ (b : Bus) (d : Byte) (addr : Word) (v : Byte), b.bank.d = .io →
    (0xD400 ≤ addr.toNat ∧ addr.toNat ≤ 0xD7FF →
      let o := BitVec.ofNat 5 (addr.toNat % 32)
      b.read d addr = sndReg b o ∧ b.write addr v = { b with snd := (b.write addr v).snd } ∧
        sndReg (b.write addr v) o = v ∧ ∀ c, c ≠ o → sndReg (b.write addr v) c = sndReg b c) ∧
    (0xDE00 ≤ addr.toNat ∧ addr.toNat ≤ 0xDFFF → b.read d addr = 0 ∧ b.write addr v = b)

/-- With I/O banked in, a read of $D800-$DBE7 gives the 4-bit colour cell with the high bits 0, a write stores the value modulo 16 there and changes nothing else; $DBE8-$DBFF reads and writes the RAM cell unmasked (R75, R76, R77). -/
def Obligations.ColourCells : Prop :=
  ∀ (b : Bus) (d : Byte) (addr : Word) (v : Byte), b.wf = true → b.bank.d = .io →
    (0xD800 ≤ addr.toNat ∧ addr.toNat ≤ 0xDBE7 →
      (b.read d addr).toNat = (b.color.read (addr.toNat - 0xD800)).toNat ∧
      b.write addr v = { b with color := (b.write addr v).color } ∧
      ((b.write addr v).read d addr).toNat = v.toNat % 16 ∧
      ∀ c, c ≠ addr.toNat - 0xD800 → (b.write addr v).color.read c = b.color.read c) ∧
    (0xDBE8 ≤ addr.toNat ∧ addr.toNat ≤ 0xDBFF →
      b.read d addr = b.ram.read addr.toNat ∧ b.write addr v = { b with ram := b.ram.write addr.toNat v } ∧
      (b.write addr v).read d addr = v)

/-- With I/O banked in, $DC00-$DCFF reads and writes timer chip #1 and $DD00-$DDFF timer chip #2 at the address modulo 16. A write of port A or B is masked by its data-direction register; a time-of-day write goes to the alarm shadow and leaves the live registers when bit 7 of register 0x0F is set, and to the live register otherwise; every other register takes the value; no other register or shadow changes (R78, R79, R80, R81). -/
def Obligations.TimerChipRules : Prop :=
  (∀ (b : Bus) (d : Byte) (addr : Word) (v : Byte), b.bank.d = .io →
    let r := BitVec.ofNat 4 (addr.toNat % 16)
    (0xDC00 ≤ addr.toNat ∧ addr.toNat ≤ 0xDCFF →
      b.read d addr = b.tc1.read r ∧ b.write addr v = { b with tc1 := b.tc1.write r v }) ∧
    (0xDD00 ≤ addr.toNat ∧ addr.toNat ≤ 0xDDFF →
      b.read d addr = b.tc2.read r ∧ b.write addr v = { b with tc2 := b.tc2.write r v })) ∧
  ∀ (t : TimerChip) (r : BitVec 4) (v : Byte),
    let toAlarm := 8 ≤ r.toNat ∧ r.toNat ≤ 11 ∧ (t.read 0x0F).getLsbD 7 = true
    (r.toNat ≤ 1 → (t.write r v).read r = v &&& t.read (BitVec.ofNat 4 (r.toNat + 2))) ∧
    (2 ≤ r.toNat → ¬toAlarm → (t.write r v).read r = v) ∧
    (toAlarm → (t.write r v).regs = t.regs) ∧ (¬toAlarm → (t.write r v).alarm = t.alarm) ∧
    (toAlarm → ∀ k, alarmReg (t.write r v) k = if k.toNat + 8 = r.toNat then v else alarmReg t k) ∧
    ∀ c, c ≠ r → (t.write r v).read c = t.read c

/-- The effective address of zp is the operand byte, of zpx the operand byte plus X modulo 256, of zpy plus Y modulo 256; every instruction of these modes has one operand byte (R108, R109, R110). -/
def Obligations.ZeroPageAddresses : Prop :=
  ∀ (s : State) (nn : Byte),
    (s.ea (.zp nn)).toNat = nn.toNat ∧ (s.ea (.zpx nn)).toNat = (nn.toNat + s.x.toNat) % 256 ∧
      (s.ea (.zpy nn)).toNat = (nn.toNat + s.y.toNat) % 256 ∧
      ∀ i ∈ zpInstrs nn ++ zpxInstrs nn ++ zpyInstrs nn, (encode i).tail = [nn]

/-- The effective address of absx is the operand word plus X modulo 65536 and of absy plus Y modulo 65536; every instruction of these modes has its operand word in two bytes, low then high (R112, R113). -/
def Obligations.IndexedAbsoluteAddresses : Prop :=
  ∀ (s : State) (hhll : Word),
    (s.ea (.abs hhll)) = hhll ∧ (s.ea (.absx hhll)).toNat = (hhll.toNat + s.x.toNat) % 65536 ∧
      (s.ea (.absy hhll)).toNat = (hhll.toNat + s.y.toNat) % 65536 ∧
      ∀ i ∈ absxInstrs hhll ++ absyInstrs hhll,
        (encode i).tail = [BitVec.ofNat 8 (hhll.toNat % 256), BitVec.ofNat 8 (hhll.toNat / 256)]

/-- indx reads its pointer at (operand + X) modulo 256, indy at the operand; the high byte is one further, in page 0 when ZP_PTR_WRAP and at $0100 after $FF otherwise; the word read is the effective address of indx, and that of indy with Y added modulo 65536; the pointer reads are bus reads; one operand byte each (R116, R117). -/
def Obligations.ZeroPagePointerAddresses : Prop :=
  ∀ (s : State) (nn : Byte),
    let high := fun (z : Nat) => BitVec.ofNat 16 (if s.params.zpPtrWrap then (z + 1) % 256 else z + 1)
    let pointer := fun (z : Nat) =>
      256 * (s.read .pointerHigh (high z)).toNat + (s.read .pointerLow (BitVec.ofNat 16 z)).toNat
    ReadsTheBus s ∧ (s.ea (.indx nn)).toNat = pointer ((nn.toNat + s.x.toNat) % 256) ∧
      (s.ea (.indy nn)).toNat = (pointer nn.toNat + s.y.toNat) % 65536 ∧
      ∀ i ∈ indxInstrs nn ++ indyInstrs nn, (encode i).tail = [nn]

/-- In every form, LDA (LDX, LDY) completes with A (X, Y) equal to the operand value (the immediate byte, or the bus read of the effective address), Z and N describing it, V, C, D, I, B and bit 5 unchanged, PC past the instruction and everything else as it was (R120, R121, R122). -/
def Obligations.LoadsSetTheirRegister : Prop :=
  ∀ (s : State) (nn : Byte) (hhll : Word),
    (∀ f ∈ ldaForms s nn hhll, f.IsLoaded s nn ∧ ∃ q, NZOf f.value s.p q ∧
      exec f.instr s = .next { s.fetched f.len with a := f.value, p := q }) ∧
    (∀ f ∈ ldxForms s nn hhll, f.IsLoaded s nn ∧ ∃ q, NZOf f.value s.p q ∧
      exec f.instr s = .next { s.fetched f.len with x := f.value, p := q }) ∧
    (∀ f ∈ ldyForms s nn hhll, f.IsLoaded s nn ∧ ∃ q, NZOf f.value s.p q ∧
      exec f.instr s = .next { s.fetched f.len with y := f.value, p := q })

/-- In every form, STA (STX, STY) completes with one bus write of A (X, Y) at the effective address, PC past the instruction and everything else, P among it, as it was (R123, R124, R125). -/
def Obligations.StoresWriteTheirRegister : Prop :=
  ∀ (s : State) (nn : Byte) (hhll : Word),
    (∀ f ∈ staForms nn hhll, exec f.instr s =
      .next { s.fetched f.len with bus := s.bus.write ((s.fetched f.len).ea f.operand) s.a }) ∧
    (∀ f ∈ stxForms nn hhll, exec f.instr s =
      .next { s.fetched f.len with bus := s.bus.write ((s.fetched f.len).ea f.operand) s.x }) ∧
    (∀ f ∈ styForms nn hhll, exec f.instr s =
      .next { s.fetched f.len with bus := s.bus.write ((s.fetched f.len).ea f.operand) s.y })

/-- Each transfer completes with its destination equal to its source, N and Z following the value but for TXS, which changes no flag and never faults, PC one further and everything else as it was (R126, R127, R128, R129, R130, R131). -/
def Obligations.TransfersCopyTheirRegister : Prop :=
  ∀ s : State,
    (∃ q, NZOf s.a s.p q ∧ exec .tax s = .next { s.fetched 1 with x := s.a, p := q }) ∧
    (∃ q, NZOf s.a s.p q ∧ exec .tay s = .next { s.fetched 1 with y := s.a, p := q }) ∧
    (∃ q, NZOf s.x s.p q ∧ exec .txa s = .next { s.fetched 1 with a := s.x, p := q }) ∧
    (∃ q, NZOf s.y s.p q ∧ exec .tya s = .next { s.fetched 1 with a := s.y, p := q }) ∧
    (∃ q, NZOf s.sp s.p q ∧ exec .tsx s = .next { s.fetched 1 with x := s.sp, p := q }) ∧
    exec .txs s = .next { s.fetched 1 with sp := s.x }

/-- In every form, ADC completes with A the sum of A, the operand (the immediate byte, or the bus read of the effective address) and C modulo 256, C set exactly when the sum is 256 or more, V set exactly when the signed sum is outside -128..127, Z and N describing the result, whatever D holds, and everything else as it was (R134). -/
def Obligations.AdcAddsWithCarry : Prop :=
  ∀ (s : State) (nn : Byte) (hhll : Word), ∀ f ∈ adcForms s nn hhll, f.IsLoaded s nn ∧ ∃ r q : Byte,
    exec f.instr s = .next { s.fetched f.len with a := r, p := q } ∧
    r.toNat = (s.a.toNat + f.value.toNat + carryOf s.p) % 256 ∧
    (getFlag q .c = true ↔ 256 ≤ s.a.toNat + f.value.toNat + carryOf s.p) ∧
    (getFlag q .v = true ↔
      s.a.toInt + f.value.toInt + carryOf s.p < -128 ∨ 127 < s.a.toInt + f.value.toInt + carryOf s.p) ∧
    (getFlag q .z = true ↔ r.toNat = 0) ∧ (getFlag q .n = true ↔ 128 ≤ r.toNat) ∧
    KeepsFlags [.n, .v, .z, .c] s.p q

/-- In every form, SBC completes with A the difference A - M - (1 - C) modulo 256 (M the immediate byte, or the bus read of the effective address), C set exactly when there is no borrow, V set exactly when the signed difference is outside -128..127, Z and N describing the result, whatever D holds, and everything else as it was (R135). -/
def Obligations.SbcSubtractsWithBorrow : Prop :=
  ∀ (s : State) (nn : Byte) (hhll : Word), ∀ f ∈ sbcForms s nn hhll, f.IsLoaded s nn ∧ ∃ r q : Byte,
    exec f.instr s = .next { s.fetched f.len with a := r, p := q } ∧
    (r.toNat : Int) = ((s.a.toNat : Int) - f.value.toNat - (1 - carryOf s.p)) % 256 ∧
    (getFlag q .c = true ↔ f.value.toNat + 1 ≤ s.a.toNat + carryOf s.p) ∧
    (getFlag q .v = true ↔
      s.a.toInt - f.value.toInt - (1 - carryOf s.p) < -128 ∨ 127 < s.a.toInt - f.value.toInt - (1 - carryOf s.p)) ∧
    (getFlag q .z = true ↔ r.toNat = 0) ∧ (getFlag q .n = true ↔ 128 ≤ r.toNat) ∧
    KeepsFlags [.n, .v, .z, .c] s.p q

/-- In every form, CMP (CPX, CPY) completes with Z set exactly when A (X, Y) equals the operand (the immediate byte, or the bus read of the effective address), C exactly when it is not less unsigned, N exactly when the difference modulo 256 is 128 or more, V and every register unchanged, and everything else as it was (R136, R137, R138). -/
def Obligations.ComparisonsOrderTheirOperands : Prop :=
  ∀ (s : State) (nn : Byte) (hhll : Word),
    let compared := fun (r : Byte) (f : ValueForm) => f.IsLoaded s nn ∧ ∃ q : Byte,
      exec f.instr s = .next { s.fetched f.len with p := q } ∧
      (getFlag q .z = true ↔ r = f.value) ∧ (getFlag q .c = true ↔ f.value.toNat ≤ r.toNat) ∧
      (getFlag q .n = true ↔ 128 ≤ ((r.toNat : Int) - f.value.toNat) % 256) ∧ KeepsFlags [.n, .z, .c] s.p q
    (∀ f ∈ cmpForms s nn hhll, compared s.a f) ∧ (∀ f ∈ cpxForms s nn hhll, compared s.x f) ∧
      (∀ f ∈ cpyForms s nn hhll, compared s.y f)

/-- In every form, AND (ORA, EOR) completes with each bit of A the and (or, exclusive or) of the bits of A and the operand (the immediate byte, or the bus read of the effective address), N and Z following the result, and everything else as it was (R139, R140, R141). -/
def Obligations.LogicIsBitwise : Prop :=
  ∀ (s : State) (nn : Byte) (hhll : Word),
    let combined := fun (op : Bool → Bool → Bool) (f : ValueForm) => f.IsLoaded s nn ∧ ∃ r q : Byte,
      exec f.instr s = .next { s.fetched f.len with a := r, p := q } ∧
      (∀ k, k < 8 → r.getLsbD k = op (s.a.getLsbD k) (f.value.getLsbD k)) ∧ NZOf r s.p q
    (∀ f ∈ andForms s nn hhll, combined and f) ∧ (∀ f ∈ oraForms s nn hhll, combined or f) ∧
      (∀ f ∈ eorForms s nn hhll, combined xor f)

/-- In both forms, BIT completes with Z set exactly when A and the operand (the bus read of the effective address) share no set bit, N and V equal to bits 7 and 6 of the operand, the other flags and every register unchanged, and everything else as it was (R142). -/
def Obligations.BitTestsWithoutChangingA : Prop :=
  ∀ (s : State) (nn : Byte) (hhll : Word), ∀ f ∈ bitForms s nn hhll, f.IsLoaded s nn ∧ ∃ q : Byte,
    exec f.instr s = .next { s.fetched f.len with p := q } ∧
    (getFlag q .z = true ↔ ∀ k, k < 8 → ¬(s.a.getLsbD k = true ∧ f.value.getLsbD k = true)) ∧
    getFlag q .n = f.value.getLsbD 7 ∧ getFlag q .v = f.value.getLsbD 6 ∧ KeepsFlags [.n, .v, .z] s.p q

/-- In every form, INC (DEC) completes with one bus write at the effective address of the value that the bus read there gives plus (less) one modulo 256, N and Z following the value written, the other flags and every register unchanged, and everything else as it was (R143, R144). -/
def Obligations.MemoryIncrementAndDecrement : Prop :=
  ∀ (s : State) (nn : Byte) (hhll : Word),
    let stepped := fun (by_ : Nat) (f : MemoryForm) => ∃ m r q : Byte, LoadsFromBus s f.len f.operand m ∧
      exec f.instr s = .next { s.fetched f.len with
        bus := s.bus.write ((s.fetched f.len).ea f.operand) r, p := q } ∧
      m = (s.fetched f.len).load f.operand ∧ r.toNat = (m.toNat + by_) % 256 ∧ NZOf r s.p q
    (∀ f ∈ incForms nn hhll, stepped 1 f) ∧ (∀ f ∈ decForms nn hhll, stepped 255 f)

/-- INX and INY (DEX and DEY) complete with X or Y one more (one less) modulo 256, N and Z following it, PC one further and everything else as it was (R145, R146, R147, R148). -/
def Obligations.IndexIncrementAndDecrement : Prop :=
  ∀ s : State,
    (∃ r q : Byte, exec .inx s = .next { s.fetched 1 with x := r, p := q } ∧ r.toNat = (s.x.toNat + 1) % 256 ∧
      NZOf r s.p q) ∧
    (∃ r q : Byte, exec .iny s = .next { s.fetched 1 with y := r, p := q } ∧ r.toNat = (s.y.toNat + 1) % 256 ∧
      NZOf r s.p q) ∧
    (∃ r q : Byte, exec .dex s = .next { s.fetched 1 with x := r, p := q } ∧ r.toNat = (s.x.toNat + 255) % 256 ∧
      NZOf r s.p q) ∧
    (∃ r q : Byte, exec .dey s = .next { s.fetched 1 with y := r, p := q } ∧ r.toNat = (s.y.toNat + 255) % 256 ∧
      NZOf r s.p q)

/-- In the accumulator form and in every memory form (one bus read and one bus write of the effective address), ASL doubles modulo 256 with C the old bit 7, LSR halves with C the old bit 0, ROL and ROR do so with the old carry entering at bit 0 or bit 7; N and Z follow the result, V, D, I, B and bit 5 are unchanged, and everything else is as it was (R152, R153, R154, R155). -/
def Obligations.ShiftsAndRotates : Prop :=
  ∀ (s : State) (nn : Byte) (hhll : Word),
    let c := carryOf s.p
    let flags := fun (r q : Byte) (out : Nat) =>
      (getFlag q .c = true ↔ out = 1) ∧ (getFlag q .z = true ↔ r.toNat = 0) ∧
        (getFlag q .n = true ↔ 128 ≤ r.toNat) ∧ KeepsFlags [.n, .z, .c] s.p q
    let asl := fun (v r q : Byte) => r.toNat = 2 * v.toNat % 256 ∧ flags r q (v.toNat / 128)
    let lsr := fun (v r q : Byte) => r.toNat = v.toNat / 2 ∧ flags r q (v.toNat % 2)
    let rol := fun (v r q : Byte) => r.toNat = (2 * v.toNat + c) % 256 ∧ flags r q (v.toNat / 128)
    let ror := fun (v r q : Byte) => r.toNat = v.toNat / 2 + 128 * c ∧ flags r q (v.toNat % 2)
    let inA := fun (i : Instr) (does : Byte → Byte → Byte → Prop) => ∃ r q : Byte,
      exec i s = .next { s.fetched 1 with a := r, p := q } ∧ does s.a r q
    let inMemory := fun (f : MemoryForm) (does : Byte → Byte → Byte → Prop) => ∃ m r q : Byte,
      LoadsFromBus s f.len f.operand m ∧ m = (s.fetched f.len).load f.operand ∧
      exec f.instr s = .next { s.fetched f.len with
        bus := s.bus.write ((s.fetched f.len).ea f.operand) r, p := q } ∧
      does m r q
    inA .aslAcc asl ∧ inA .lsrAcc lsr ∧ inA .rolAcc rol ∧ inA .rorAcc ror ∧
      (∀ f ∈ aslForms nn hhll, inMemory f asl) ∧ (∀ f ∈ lsrForms nn hhll, inMemory f lsr) ∧
      (∀ f ∈ rolForms nn hhll, inMemory f rol) ∧ (∀ f ∈ rorForms nn hhll, inMemory f ror)

/-- RotateLeft repeated nine times gives back the value and the carry it started with, for every value and status byte; RotateRight after RotateLeft gives back the value and the carry (43_shift_rotate.md section 2). -/
def Obligations.NineRotationsRestore : Prop :=
  let rol := fun (m : Modified) => rotateLeft m.p m.value
  ∀ p v : Byte,
    let m := rol (rol (rol (rol (rol (rol (rol (rol (rol { value := v, p := p }))))))))
    (m.value = v ∧ getFlag m.p .c = getFlag p .c) ∧
      let u := rotateRight (rotateLeft p v).p (rotateLeft p v).value
      u.value = v ∧ getFlag u.p .c = getFlag p .c

/-- Each branch completes with PC at its own address plus 2 plus the signed operand, modulo 65536, when its condition on N, V, C or Z holds, and at its address plus 2 otherwise; no flag and nothing else changes (R156, R157, R158, R159, R160, R161, R162, R163, R164). -/
def Obligations.BranchesTestTheirFlag : Prop :=
  ∀ (s : State) (nn : Byte),
    ∀ e ∈ ([(.bpl nn, .n, false), (.bmi nn, .n, true), (.bvc nn, .v, false), (.bvs nn, .v, true),
        (.bcc nn, .c, false), (.bcs nn, .c, true), (.bne nn, .z, false), (.beq nn, .z, true)] :
        List (Instr × Flag × Bool)),
      exec e.1 s = .next { s.fetched 2 with
        pc := BitVec.ofInt 16
          (if getFlag s.p e.2.1 = e.2.2 then s.pc.toNat + 2 + nn.toInt else (s.pc.toNat + 2 : Int)) }

/-- JMP abs completes with PC the operand. JMP (ind) completes with PC the word whose low byte is read at the pointer and whose high byte is read at the pointer plus 1 modulo 65536, or within the pointer's page when JMP_IND_PAGE_WRAP; both are bus reads; no flag and nothing else changes (R115, R165). -/
def Obligations.JumpsSetPc : Prop :=
  ∀ (s : State) (hhll : Word),
    ReadsTheBus (s.fetched 3) ∧ exec (.jmpAbs hhll) s = .next { s.fetched 3 with pc := hhll } ∧
    let high := BitVec.ofNat 16 (if s.params.jmpIndPageWrap
      then 256 * (hhll.toNat / 256) + (hhll.toNat % 256 + 1) % 256 else hhll.toNat + 1)
    ∃ target : Word, exec (.jmpInd hhll) s = .next { s.fetched 3 with pc := target } ∧
      target.toNat = 256 * ((s.fetched 3).read .pointerHigh high).toNat + ((s.fetched 3).read .pointerLow hhll).toNat

/-- When S is neither 0 nor 1, JSR completes with the high byte of PC + 2 written at $0100 + S and the low byte at $0100 + S - 1, S two less, PC the operand, no flag and nothing else changed; when S is 0 or 1 it raises StackOverflow with nothing written (R166). -/
def Obligations.JsrPushesTheReturnAddress : Prop :=
  ∀ (s : State) (hhll : Word),
    (2 ≤ s.sp.toNat → exec (.jsr hhll) s = .next { s.fetched 3 with
      bus := (s.bus.write (stackByte s.sp) (BitVec.ofNat 8 ((s.pc.toNat + 2) % 65536 / 256))).write
        (stackByte (s.sp - 1)) (BitVec.ofNat 8 (s.pc.toNat + 2))
      sp := s.sp - 2, pc := hhll }) ∧
    (s.sp.toNat ≤ 1 → exec (.jsr hhll) s = .next (faultedWith s .stackOverflow 0x20))

/-- When S is below 0xFE, RTS completes with PC one more than the word at $0100 + S + 1 (low) and $0100 + S + 2 (high), modulo 65536, both read from the bus, S two more, no flag and nothing else changed; when S is 0xFE or 0xFF it raises StackUnderflow (R167). -/
def Obligations.RtsPullsTheReturnAddress : Prop :=
  ∀ s : State,
    ReadsTheBus (s.fetched 1) ∧
    (s.sp.toNat ≤ 0xFD → exec .rts s = .next { s.fetched 1 with
      sp := s.sp + 2
      pc := BitVec.ofNat 16 (256 * ((s.fetched 1).read .stack (stackByte (s.sp + 2))).toNat +
        ((s.fetched 1).read .stack (stackByte (s.sp + 1))).toNat + 1) }) ∧
    (0xFE ≤ s.sp.toNat → exec .rts s = .next (faultedWith s .stackUnderflow 0x60))

/-- When S is neither 0 nor 1 and the memories are canonical, JSR completes, RTS in the state it leaves completes, and then PC is the JSR's address plus 3, S and the other registers are as before the call (44_control.md section 3, 45_stack_flag_system.md section 1). -/
def Obligations.ReturnFollowsTheCall : Prop :=
  ∀ (s : State) (hhll : Word), s.wf = true → 2 ≤ s.sp.toNat →
    ∃ t u, exec (.jsr hhll) s = .next t ∧ exec .rts t = .next u ∧
      u.pc = s.pc + 3 ∧ u.sp = s.sp ∧ u.a = s.a ∧ u.x = s.x ∧ u.y = s.y ∧ u.p = s.p ∧ u.bus = t.bus

/-- When S is not 0, PHA (PHP) completes with A (P with PHP_OR or-ed in) written at $0100 + S and S one less, P and everything else as it was; the RAM cell there then holds that byte and $0100 is untouched. At S = 0 it raises StackOverflow with nothing written (R171, R172). -/
def Obligations.PushInstructions : Prop :=
  ∀ s : State,
    let pushed := fun (i : Instr) (op v : Byte) =>
      (s.sp ≠ 0 → exec i s = .next { s.fetched 1 with bus := s.bus.write (stackByte s.sp) v, sp := s.sp - 1 } ∧
        (s.bus.wf = true → (s.bus.write (stackByte s.sp) v).ram.read (256 + s.sp.toNat) = v) ∧
        (s.bus.write (stackByte s.sp) v).ram.read 256 = s.bus.ram.read 256) ∧
      (s.sp = 0 → exec i s = .next (faultedWith s .stackOverflow op))
    pushed .pha 0x48 s.a ∧ pushed .php 0x08 (s.p ||| BitVec.ofNat 8 (16 * s.params.phpOr.toNat))

/-- When S is not 0xFF, PLA completes with A the byte the bus read at $0100 + S + 1 gives, N and Z following it, and S one more; PLP completes with all eight bits of P taken from that byte and S one more; everything else as it was. At S = 0xFF each raises StackUnderflow (R173, R174). -/
def Obligations.PullInstructions : Prop :=
  ∀ s : State,
    let v := (s.fetched 1).read .stack (stackByte (s.sp + 1))
    ReadsTheBus (s.fetched 1) ∧
    (s.sp ≠ 0xFF → (∃ q, NZOf v s.p q ∧ exec .pla s = .next { s.fetched 1 with sp := s.sp + 1, a := v, p := q }) ∧
      exec .plp s = .next { s.fetched 1 with sp := s.sp + 1, p := v }) ∧
    (s.sp = 0xFF → exec .pla s = .next (faultedWith s .stackUnderflow 0x68) ∧
      exec .plp s = .next (faultedWith s .stackUnderflow 0x28))

/-- Push faults at S = 0 and otherwise writes at $0100 + S and decrements S; Pull faults at S = 0xFF and otherwise increments S and reads the bus at $0100 + S; when a push does not fault, a pull after it gives the byte pushed and the old S (R169, R170). -/
def Obligations.PullUndoesPush : Prop :=
  ∀ (s : State) (v : Byte),
    ReadsTheBus s ∧
    (s.sp = 0 → s.push v = none) ∧
    (s.sp ≠ 0 → s.push v = some { s with bus := s.bus.write (stackByte s.sp) v, sp := s.sp - 1 }) ∧
    (s.sp = 0xFF → s.pull = none) ∧
    (s.sp ≠ 0xFF → s.pull = some ({ s with sp := s.sp + 1 }, s.read .stack (stackByte (s.sp + 1)))) ∧
    (s.wf = true → ∀ t, s.push v = some t → ∃ u, t.pull = some (u, v) ∧ u.sp = s.sp)

/-- Each flag instruction completes with its flag 0 or 1 as its name says, every other bit of P, every register and everything else as it was, and PC one further (R175, R176, R177, R178, R179, R180, R181). -/
def Obligations.FlagInstructionsWriteOneFlag : Prop :=
  ∀ s : State,
    ∀ e ∈ ([(.clc, .c, false), (.sec, .c, true), (.cli, .i, false), (.sei, .i, true), (.cld, .d, false),
        (.sed, .d, true), (.clv, .v, false)] : List (Instr × Flag × Bool)),
      ∃ q, exec e.1 s = .next { s.fetched 1 with p := q } ∧ getFlag q e.2.1 = e.2.2 ∧ KeepsFlags [e.2.1] s.p q

/-- NOP completes with PC one further and IC one more; the fetch of any instruction of len bytes leaves PC len further modulo 65536 and IC one more; everything else is as it was but for the numbering of draws, the model's own field (log entry 11) (R182). -/
def Obligations.NopOnlyAdvances : Prop :=
  (∀ s : State, exec .nop s = .next { s with pc := s.pc + 1, ic := s.ic + 1, draws := (s.fetched 1).draws }) ∧
    ∀ (s : State) (len : Nat), s.fetched len =
      { s with
        pc := BitVec.ofNat 16 ((s.pc.toNat + len) % 65536), ic := s.ic + 1, draws := (s.fetched len).draws }

/-- BRK and RTI leave every register, PC, IC and all memory as before the fetch and set STATUS to Faulted(Unsupported, PC, opcode byte, IC + 1); the code is 2 (R183, R184, R191). -/
def Obligations.BrkAndRtiAreUnsupported : Prop :=
  FaultKind.unsupported.code = 2 ∧
    ∀ s : State, exec .brk s = .next { s with status := .faulted .unsupported s.pc 0x00 (s.ic + 1) } ∧
      exec .rti s = .next { s with status := .faulted .unsupported s.pc 0x40 (s.ic + 1) }

/-- When an instruction answers a next state, A changes only for the instructions listed as writing A, X only for those of X, Y only for those of Y, and S only for TXS, the pushes and pulls, JSR and RTS (10_state.md section 1). -/
def Obligations.OnlyListedInstructionsWriteARegister : Prop :=
  ∀ (i : Instr) (s t : State), exec i s = .next t →
    (writesA i = false → t.a = s.a) ∧ (writesX i = false → t.x = s.x) ∧ (writesY i = false → t.y = s.y) ∧
      (writesS i = false → t.sp = s.sp)

/-- When an instruction answers a next state, C, V, N and Z change only for the instructions listed as writing them, I only for CLI, SEI and PLP, D only for CLD, SED and PLP, and B and bit 5 only for PLP (10_state.md section 2). -/
def Obligations.OnlyListedInstructionsWriteAFlag : Prop :=
  ∀ (i : Instr) (s t : State), exec i s = .next t →
    (writesC i = false → getFlag t.p .c = getFlag s.p .c) ∧ (writesV i = false → getFlag t.p .v = getFlag s.p .v) ∧
    (writesNZ i = false → getFlag t.p .n = getFlag s.p .n ∧ getFlag t.p .z = getFlag s.p .z) ∧
    (i ∉ [.cli, .sei, .plp] → getFlag t.p .i = getFlag s.p .i) ∧
    (i ∉ [.cld, .sed, .plp] → getFlag t.p .d = getFlag s.p .d) ∧
    (i ≠ .plp → getFlag t.p .b = getFlag s.p .b ∧ t.p.getLsbD 5 = s.p.getLsbD 5)

/-- When an instruction other than a store, a read-modify-write form, PHA, PHP or JSR answers a next state, everything behind the bus is unchanged and every address reads as before under the same draw (20_memory.md sections 1 and 6, 40_addressing.md section 4). -/
def Obligations.NonStoringInstructionsLeaveMemory : Prop :=
  ∀ (i : Instr) (s t : State), writesMemory i = false → exec i s = .next t →
    t.bus = s.bus ∧ ∀ (d : Byte) (addr : Word), t.bus.read d addr = s.bus.read d addr

/-- When a storing form answers a next state, A, X, Y and S are unchanged, V, D, I, B and bit 5 are unchanged, and with a the effective address the meaning computes: if a RAM cell is written, every address but a reads as before; if another cell is written and a is not $0001, every address that a different cell answers reads as before; if a is $0001, nothing behind the bus but PORT changes (20_memory.md sections 1 and 2, 40_addressing.md section 4). -/
def Obligations.StoringInstructionsFrame : Prop :=
  ∀ (s t : State) (nn : Byte) (hhll : Word), ∀ f ∈ storingForms nn hhll, exec f.instr s = .next t →
    let a := (s.fetched f.len).ea f.operand
    t.a = s.a ∧ t.x = s.x ∧ t.y = s.y ∧ t.sp = s.sp ∧ KeepsFlags [.n, .z, .c] s.p t.p ∧
      (∀ n, writeCell s.bus.bank a = .ram n → ∀ c d, c ≠ a → t.bus.read d c = s.bus.read d c) ∧
      (a ≠ 0x0001 → ∀ c d, readCell s.bus.bank c ≠ writeCell s.bus.bank a → t.bus.read d c = s.bus.read d c) ∧
      (a = 0x0001 → t.bus = { s.bus with port := t.bus.port })

/-- When PHA or PHP answers a next state, A, X, Y and P are unchanged and every address but $0100 + S reads as before; when JSR does, A, X, Y and P are unchanged and every address but $0100 + S and $0100 + S - 1 reads as before (44_control.md section 3, 45_stack_flag_system.md sections 1 and 2). -/
def Obligations.StackInstructionsFrame : Prop :=
  ∀ (s t : State) (hhll : Word),
    ((exec .pha s = .next t ∨ exec .php s = .next t) →
      t.a = s.a ∧ t.x = s.x ∧ t.y = s.y ∧ t.p = s.p ∧
        ∀ c d, c ≠ stackByte s.sp → t.bus.read d c = s.bus.read d c) ∧
    (exec (.jsr hhll) s = .next t →
      t.a = s.a ∧ t.x = s.x ∧ t.y = s.y ∧ t.p = s.p ∧
        ∀ c d, c ≠ stackByte s.sp → c ≠ stackByte (s.sp - 1) → t.bus.read d c = s.bus.read d c)

/-- For every instruction but PHP, two states that differ only in bits D, I, B and 5 of P lead to next states that differ only in those bits of P: arithmetic is binary whatever D is, and I masks nothing (10_state.md section 2, 42_arith_logic.md section 5, 60_exceptions.md section 5). -/
def Obligations.DecimalInterruptAndBreakFlagsAreInert : Prop :=
  ∀ (i : Instr) (s : State) (q : Byte), i ≠ .php → q &&& 0xC3 = s.p &&& 0xC3 →
    ∃ t u, exec i s = .next t ∧ exec i { s with p := q } = .next u ∧
      u = { t with p := u.p } ∧ u.p &&& 0xC3 = t.p &&& 0xC3

/-- The host's requests as an argument of the loop are the model's choice (log entry 15). Without a request the loop takes one step and goes on from the state it answers, and in a Faulted state it ends there; a request, or the end of the list, leaves the state as it is, whatever is asked after it; and a loop that ran without a request through one list and is then run through another ends where one run through both lists in turn ends (60_exceptions.md section 8, 60_exceptions.md section 1, log entry 15). -/
def Obligations.AStopRequestKeepsTheWholeState : Prop :=
  ∀ (before later : List Bool) (s : State),
    hostRun [] s = s ∧ hostRun (true :: later) s = s ∧
      (∀ t, step s = .next t → hostRun (false :: later) s = hostRun later t) ∧
      (s.hasFaulted = true → hostRun (false :: later) s = s) ∧
      hostRun (before ++ true :: later) s = hostRun before s ∧
      ((∀ b ∈ before, b = false) → hostRun later (hostRun before s) = hostRun (before ++ later) s)
end

