-- ==== Sys2Proof/Laws/Memory.lean ====
section
/-! SUPPORT. Stores: reading after writing, and every memory operation keeps the canonical form. -/

namespace Sys2Proof.Machine

variable {w : Nat}

theorem Store.read_cons_self (a : Nat) (v : BitVec w) (rest : Store w)
    (h : Store.read rest a = unlistedValue w) : Store.read (Store.cons a v rest) a = v := by
  unfold Store.cons
  split
  · simp_all
  · simp [Store.read]

theorem Store.read_cons_other {a c : Nat} (v : BitVec w) (rest : Store w) (h : c ≠ a) :
    Store.read (Store.cons a v rest) c = Store.read rest c := by
  unfold Store.cons
  split
  · rfl
  · simp [Store.read, Ne.symm h]

/-- A store canonical from `lo` on reads the unlisted value below `lo`. -/
theorem Store.read_below {lo size : Nat} {m : Store w} (h : Store.wfFrom lo size m = true) {a : Nat} (ha : a < lo) :
    Store.read m a = unlistedValue w := by
  induction m generalizing lo with
  | nil => rfl
  | cons e rest ih =>
    obtain ⟨k, v⟩ := e
    simp only [Store.wfFrom, Bool.and_eq_true, decide_eq_true_eq] at h
    have hk : k ≠ a := by omega
    simp only [Store.read, hk, if_false]
    exact ih h.2 (by omega)

/-- The cell written reads as the value written, in a canonical store. -/
theorem Store.read_write_self {size : Nat} {m : Store w} (a : Nat) (v : BitVec w) {lo : Nat}
    (h : Store.wfFrom lo size m = true) : Store.read (Store.write m a v) a = v := by
  induction m generalizing lo with
  | nil => exact Store.read_cons_self a v [] rfl
  | cons e rest ih =>
    obtain ⟨k, u⟩ := e
    simp only [Store.wfFrom, Bool.and_eq_true, decide_eq_true_eq] at h
    unfold Store.write
    split
    · have : k ≠ a := by omega
      simp only [Store.read, this, if_false]
      exact ih h.2
    · split
      · exact Store.read_cons_self a v rest (Store.read_below h.2 (by omega))
      · refine Store.read_cons_self a v _ ?_
        have : k ≠ a := by omega
        simp only [Store.read, this, if_false]
        exact Store.read_below h.2 (by omega)

/-- Every other cell reads as before. -/
theorem Store.read_write_other (m : Store w) {a c : Nat} (v : BitVec w) (h : c ≠ a) :
    Store.read (Store.write m a v) c = Store.read m c := by
  induction m with
  | nil => exact Store.read_cons_other v [] h
  | cons e rest ih =>
    obtain ⟨k, u⟩ := e
    unfold Store.write
    split
    · simp only [Store.read, ih]
    · split
      · rw [Store.read_cons_other v rest h]
        have : k ≠ c := by omega
        simp only [Store.read, this, if_false]
      · rw [Store.read_cons_other v _ h]

theorem Store.wfFrom_mono {lo lo' size : Nat} {m : Store w} (hl : lo' ≤ lo) (h : Store.wfFrom lo size m = true) :
    Store.wfFrom lo' size m = true := by
  cases m with
  | nil => rfl
  | cons e rest =>
    obtain ⟨k, v⟩ := e
    simp only [Store.wfFrom, Bool.and_eq_true, decide_eq_true_eq] at h ⊢
    exact ⟨⟨⟨by omega, h.1.1.2⟩, h.1.2⟩, h.2⟩

theorem Store.cons_wfFrom {lo size a : Nat} (v : BitVec w) {rest : Store w} (hl : lo ≤ a) (ha : a < size)
    (h : Store.wfFrom (a + 1) size rest = true) : Store.wfFrom lo size (Store.cons a v rest) = true := by
  unfold Store.cons
  split
  · exact Store.wfFrom_mono (by omega) h
  · rename_i hv
    simp only [Store.wfFrom, Bool.and_eq_true, decide_eq_true_eq]
    exact ⟨⟨⟨hl, ha⟩, hv⟩, h⟩

theorem Store.write_wfFrom {lo size a : Nat} (v : BitVec w) {m : Store w} (hl : lo ≤ a) (ha : a < size)
    (h : Store.wfFrom lo size m = true) : Store.wfFrom lo size (Store.write m a v) = true := by
  induction m generalizing lo with
  | nil => exact Store.cons_wfFrom v hl ha rfl
  | cons e rest ih =>
    obtain ⟨k, u⟩ := e
    simp only [Store.wfFrom, Bool.and_eq_true, decide_eq_true_eq] at h
    unfold Store.write
    split
    · simp only [Store.wfFrom, Bool.and_eq_true, decide_eq_true_eq]
      exact ⟨h.1, ih (by omega) h.2⟩
    · split
      · exact Store.cons_wfFrom v hl ha (by subst_vars; exact h.2)
      · refine Store.cons_wfFrom v hl ha ?_
        simp only [Store.wfFrom, Bool.and_eq_true, decide_eq_true_eq]
        exact ⟨⟨⟨by omega, h.1.1.2⟩, h.1.2⟩, h.2⟩

/-- Writing a cell of the store keeps the canonical form. -/
theorem Store.write_wf {size a : Nat} (v : BitVec w) {m : Store w} (ha : a < size) (h : Store.wf size m = true) :
    Store.wf size (Store.write m a v) = true :=
  Store.write_wfFrom v (Nat.zero_le a) ha h

theorem Store.ofValuesFrom_wfFrom (a size : Nat) (vs : List (BitVec w)) (h : a + vs.length ≤ size) :
    Store.wfFrom a size (Store.ofValuesFrom a vs) = true := by
  induction vs generalizing a with
  | nil => rfl
  | cons v rest ih =>
    simp only [List.length_cons] at h
    exact Store.cons_wfFrom v (Nat.le_refl a) (by omega) (ih (a + 1) (by omega))

/-- A loaded ROM image is canonical. -/
theorem Store.loadRom_wf {size : Nat} {bytes : List Byte} {m : Store 8} (h : Store.loadRom size bytes = some m) :
    Store.wf size m = true := by
  unfold Store.loadRom at h
  split at h
  · cases h
    exact Store.ofValuesFrom_wfFrom 0 size bytes (by omega)
  · cases h

theorem Bus.wf_iff (b : Bus) : b.wf = true ↔
    b.ram.wf 65536 = true ∧ b.charRom.wf 4096 = true ∧ b.basicRom.wf 8192 = true ∧ b.kernalRom.wf 8192 = true ∧
      b.color.wf 1000 = true := by
  simp [Bus.wf, and_assoc]

/-- The I/O sub-decode names RAM cells by the address itself and colour cells below 1000, and no ROM cell. -/
theorem ioCell_cases (addr : Word) :
    (∃ o, ioCell addr = .vid o) ∨ (∃ o, ioCell addr = .snd o) ∨
      (∃ c, ioCell addr = .color c ∧ c < 1000 ∧ c = addr.toNat - 0xD800) ∨ ioCell addr = .ram addr.toNat ∨
      (∃ r, ioCell addr = .tc1 r) ∨ (∃ r, ioCell addr = .tc2 r) ∨ ioCell addr = .expansion := by
  simp only [ioCell]
  split
  · exact .inl ⟨_, rfl⟩
  split
  · exact .inr (.inl ⟨_, rfl⟩)
  split
  · split
    · exact .inr (.inr (.inl ⟨_, rfl, by assumption, rfl⟩))
    · exact .inr (.inr (.inr (.inl rfl)))
  split
  · exact .inr (.inr (.inr (.inr (.inl ⟨_, rfl⟩))))
  split
  · exact .inr (.inr (.inr (.inr (.inr (.inl ⟨_, rfl⟩)))))
  · exact .inr (.inr (.inr (.inr (.inr (.inr rfl)))))

/-- Every cell a write can go to: the port, RAM at the address itself, or an I/O cell. -/
theorem writeCell_cases (bank : Bank) (addr : Word) :
    (addr = 0 ∧ writeCell bank addr = .ddr) ∨ (addr = 1 ∧ writeCell bank addr = .port) ∨
      writeCell bank addr = .ram addr.toNat ∨ (bank.d = .io ∧ writeCell bank addr = ioCell addr) := by
  simp only [writeCell]
  split
  · exact .inl ⟨by apply BitVec.eq_of_toNat_eq; simpa, rfl⟩
  split
  · exact .inr (.inl ⟨by apply BitVec.eq_of_toNat_eq; simpa, rfl⟩)
  split
  · exact .inr (.inr (.inr ⟨by simp_all, rfl⟩))
  · exact .inr (.inr (.inl rfl))

/-- What a video write leaves alone. -/
theorem Bus.vidWrite_stores (b : Bus) (o : BitVec 6) (v : Byte) :
    (b.vidWrite o v).ram = b.ram ∧ (b.vidWrite o v).charRom = b.charRom ∧ (b.vidWrite o v).basicRom = b.basicRom ∧
      (b.vidWrite o v).kernalRom = b.kernalRom ∧ (b.vidWrite o v).color = b.color ∧ (b.vidWrite o v).ddr = b.ddr ∧
      (b.vidWrite o v).port = b.port ∧ (b.vidWrite o v).snd = b.snd ∧ (b.vidWrite o v).tc1 = b.tc1 ∧
      (b.vidWrite o v).tc2 = b.tc2 := by
  unfold Bus.vidWrite
  split
  · simp
  split
  · simp
  split
  · simp
  · simp

/-- A write to a cell that a bus write can reach keeps every memory canonical. -/
theorem Bus.write_wf {b : Bus} (addr : Word) (v : Byte) (h : b.wf = true) : (b.write addr v).wf = true := by
  rw [Bus.wf_iff] at h ⊢
  obtain ⟨hr, hc, hb, hk, hcol⟩ := h
  have hlt : addr.toNat < 65536 := addr.isLt
  unfold Bus.write
  rcases writeCell_cases b.bank addr with ⟨-, e⟩ | ⟨-, e⟩ | e | ⟨-, e⟩ <;> rw [e]
  · exact ⟨hr, hc, hb, hk, hcol⟩
  · exact ⟨hr, hc, hb, hk, hcol⟩
  · exact ⟨Store.write_wf v hlt hr, hc, hb, hk, hcol⟩
  · rcases ioCell_cases addr with ⟨o, e⟩ | ⟨o, e⟩ | ⟨c, e, hlt', -⟩ | e | ⟨r, e⟩ | ⟨r, e⟩ | e <;> rw [e]
    · obtain ⟨h1, h2, h3, h4, h5, -⟩ := Bus.vidWrite_stores b o v
      simp only [Bus.writeAt, h1, h2, h3, h4, h5]
      exact ⟨hr, hc, hb, hk, hcol⟩
    · exact ⟨hr, hc, hb, hk, hcol⟩
    · exact ⟨hr, hc, hb, hk, Store.write_wf _ hlt' hcol⟩
    · exact ⟨Store.write_wf v hlt hr, hc, hb, hk, hcol⟩
    · exact ⟨hr, hc, hb, hk, hcol⟩
    · exact ⟨hr, hc, hb, hk, hcol⟩
    · exact ⟨hr, hc, hb, hk, hcol⟩

/-- No bus write changes a ROM image (R40). -/
theorem Bus.write_roms (b : Bus) (addr : Word) (v : Byte) :
    (b.write addr v).charRom = b.charRom ∧ (b.write addr v).basicRom = b.basicRom ∧
      (b.write addr v).kernalRom = b.kernalRom := by
  unfold Bus.write
  cases writeCell b.bank addr <;> try exact ⟨rfl, rfl, rfl⟩
  obtain ⟨-, h2, h3, h4, -⟩ := Bus.vidWrite_stores b ‹_› v
  exact ⟨h2, h3, h4⟩

/-- The reset state's memories are canonical. -/
theorem State.reset_wf : State.reset.wf = true := by decide

end Sys2Proof.Machine
end

