-- ==== Sys2Proof/Laws/Bus.lean ====
section
/-! SUPPORT. The router: which cell answers an address, range by range, and reading after writing a cell. -/

namespace Sys2Proof.Machine

theorem readCell_ddr (bank : Bank) : readCell bank 0 = .ddr := rfl

theorem readCell_port (bank : Bank) : readCell bank 1 = .port := rfl

/-- $0002-$9FFF and $C000-$CFFF are RAM under every bank state (R84). -/
theorem readCell_direct (bank : Bank) {addr : Word}
    (h : 2 ≤ addr.toNat ∧ addr.toNat ≤ 0x9FFF ∨ 0xC000 ≤ addr.toNat ∧ addr.toNat ≤ 0xCFFF) :
    readCell bank addr = .ram addr.toNat := by
  simp only [readCell]
  rw [if_neg (by omega), if_neg (by omega), if_neg (by omega), if_neg (by omega), if_neg (by omega)]

theorem readCell_a (bank : Bank) {addr : Word} (h : 0xA000 ≤ addr.toNat ∧ addr.toNat ≤ 0xBFFF) :
    readCell bank addr = if bank.a = .basic then .basicRom (addr.toNat - 0xA000) else .ram addr.toNat := by
  simp only [readCell]
  rw [if_neg (by omega), if_neg (by omega), if_pos h]
  all_goals (cases bank.a <;> rfl)

theorem readCell_d (bank : Bank) {addr : Word} (h : 0xD000 ≤ addr.toNat ∧ addr.toNat ≤ 0xDFFF) :
    readCell bank addr =
      match bank.d with
      | .ram => .ram addr.toNat
      | .char => .charRom (addr.toNat - 0xD000)
      | .io => ioCell addr := by
  simp only [readCell]
  rw [if_neg (by omega), if_neg (by omega), if_neg (by omega), if_pos h]
  all_goals (cases bank.d <;> rfl)

theorem readCell_e (bank : Bank) {addr : Word} (h : 0xE000 ≤ addr.toNat) :
    readCell bank addr = if bank.e = .kernal then .kernalRom (addr.toNat - 0xE000) else .ram addr.toNat := by
  simp only [readCell]
  rw [if_neg (by omega), if_neg (by omega), if_neg (by omega), if_neg (by omega), if_pos h]
  all_goals (cases bank.e <;> rfl)

/-- Outside the processor port and the I/O window a write goes to RAM at the address itself (R56). -/
theorem writeCell_ram (bank : Bank) {addr : Word} (h2 : 2 ≤ addr.toNat)
    (h : addr.toNat < 0xD000 ∨ 0xDFFF < addr.toNat ∨ bank.d ≠ .io) : writeCell bank addr = .ram addr.toNat := by
  simp only [writeCell]
  rw [if_neg (by omega), if_neg (by omega), if_neg (by rintro ⟨h3, h4, h5⟩; rcases h with h | h | h <;> [omega; omega; exact h h5])]

theorem writeCell_io (bank : Bank) {addr : Word} (h : 0xD000 ≤ addr.toNat ∧ addr.toNat ≤ 0xDFFF) (hd : bank.d = .io) :
    writeCell bank addr = ioCell addr := by
  simp only [writeCell]
  rw [if_neg (by omega), if_neg (by omega), if_pos ⟨h.1, h.2, hd⟩]

/-- A RAM cell that answers a read is the one at the address itself. -/
theorem readCell_ram_eq {bank : Bank} {addr : Word} {n : Nat} (h : readCell bank addr = .ram n) : n = addr.toNat := by
  have key : ∀ m, ioCell addr = .ram m → m = addr.toNat := by
    intro m hm
    rcases ioCell_cases addr with ⟨o, e⟩ | ⟨o, e⟩ | ⟨c, e, -, -⟩ | e | ⟨r, e⟩ | ⟨r, e⟩ | e <;> rw [e] at hm <;>
      simp_all
  simp only [readCell] at h
  split at h
  · cases h
  split at h
  · cases h
  split at h
  · split at h <;> simp_all
  split at h
  · split at h
    · simp_all
    · cases h
    · exact key n h
  split at h
  · split at h <;> simp_all
  · simp_all

/-- The port is stored at $0001 alone, and a write anywhere else keeps it (R60). -/
theorem Bus.write_port (b : Bus) {addr : Word} (v : Byte) (h : addr ≠ 1) : (b.write addr v).port = b.port := by
  unfold Bus.write
  rcases writeCell_cases b.bank addr with ⟨-, e⟩ | ⟨h1, -⟩ | e | ⟨-, e⟩
  · rw [e]; rfl
  · exact absurd h1 h
  · rw [e]; rfl
  · rw [e]
    rcases ioCell_cases addr with ⟨o, e⟩ | ⟨o, e⟩ | ⟨c, e, -, -⟩ | e | ⟨r, e⟩ | ⟨r, e⟩ | e <;> rw [e] <;> try rfl
    exact (Bus.vidWrite_stores b o v).2.2.2.2.2.2.1

theorem Bus.write_bank (b : Bus) {addr : Word} (v : Byte) (h : addr ≠ 1) : (b.write addr v).bank = b.bank := by
  simp only [Bus.bank, Bus.write_port b v h]

/-- No bus write goes to a ROM cell (R40, R56). -/
theorem writeCell_not_rom (bank : Bank) (addr : Word) (n : Nat) :
    writeCell bank addr ≠ .charRom n ∧ writeCell bank addr ≠ .basicRom n ∧ writeCell bank addr ≠ .kernalRom n := by
  rcases writeCell_cases bank addr with ⟨-, e⟩ | ⟨-, e⟩ | e | ⟨-, e⟩ <;> rw [e]
  · simp
  · simp
  · simp
  · rcases ioCell_cases addr with ⟨o, e⟩ | ⟨o, e⟩ | ⟨c, e, -, -⟩ | e | ⟨r, e⟩ | ⟨r, e⟩ | e <;> rw [e] <;> simp

/-- The port is written at $0001 alone (R59, R60). -/
theorem writeCell_eq_port {bank : Bank} {addr : Word} (h : writeCell bank addr = .port) : addr = 1 := by
  rcases writeCell_cases bank addr with ⟨-, e⟩ | ⟨h1, -⟩ | e | ⟨-, e⟩
  · rw [e] at h; cases h
  · exact h1
  · rw [e] at h; cases h
  · rw [e] at h
    rcases ioCell_cases addr with ⟨o, e⟩ | ⟨o, e⟩ | ⟨c, e, -, -⟩ | e | ⟨r, e⟩ | ⟨r, e⟩ | e <;> rw [e] at h <;> cases h

/-- A RAM cell that a write reaches is the one at the address itself. -/
theorem writeCell_ram_eq {bank : Bank} {addr : Word} {n : Nat} (h : writeCell bank addr = .ram n) : n = addr.toNat := by
  rcases writeCell_cases bank addr with ⟨-, e⟩ | ⟨-, e⟩ | e | ⟨-, e⟩ <;> rw [e] at h
  · cases h
  · cases h
  · cases h; rfl
  · rcases ioCell_cases addr with ⟨o, e⟩ | ⟨o, e⟩ | ⟨c, e, -, -⟩ | e | ⟨r, e⟩ | ⟨r, e⟩ | e <;> rw [e] at h <;> cases h
    rfl

/-- A video write leaves what every other video offset reads (R69 to R73). -/
theorem Bus.vidRead_vidWrite_other (b : Bus) (d v : Byte) {c o : BitVec 6} (h : c ≠ o) :
    (b.vidWrite o v).vidRead d c = b.vidRead d c := by
  have hne : o.toNat ≠ c.toNat := fun h' => h (BitVec.eq_of_toNat_eq h'.symm)
  unfold Bus.vidRead
  split
  · rfl
  · unfold Bus.vidWrite
    split
    · simp only [Vector.getElem_set]
      rw [if_neg hne]
    split
    · rfl
    split
    · rfl
    · simp only [Vector.getElem_set]
      rw [if_neg hne]

/-- A timer register reads as stored; a store leaves every other register and every shadow. -/
theorem TimerChip.read_store (t : TimerChip) (r c : BitVec 4) (v : Byte) :
    (t.store r v).read c = if c = r then v else t.read c := by
  simp only [TimerChip.store, TimerChip.read, Vector.getElem_set]
  by_cases h : c = r
  · subst h; simp
  · rw [if_neg h, if_neg fun h' => h (BitVec.eq_of_toNat_eq h'.symm)]

/-- A timer-chip write leaves what every other register reads (R79, R80). -/
theorem TimerChip.read_write_other (t : TimerChip) {c r : BitVec 4} (v : Byte) (h : c ≠ r) :
    (t.write r v).read c = t.read c := by
  have hs : ∀ u, (t.store r u).read c = t.read c := fun u => by rw [TimerChip.read_store, if_neg h]
  unfold TimerChip.write
  split
  · exact hs _
  split
  · split
    · rfl
    · exact hs _
  · exact hs _

end Sys2Proof.Machine
end

