-- ==== Sys2Proof/Laws/State.lean ====
section
/-! SUPPORT. What each named update of the state does to each field: one lemma per field per update. -/

namespace Sys2Proof.Machine

variable (s : State)

@[simp] theorem State.fetched_a (len : Nat) : (s.fetched len).a = s.a := rfl
@[simp] theorem State.fetched_x (len : Nat) : (s.fetched len).x = s.x := rfl
@[simp] theorem State.fetched_y (len : Nat) : (s.fetched len).y = s.y := rfl
@[simp] theorem State.fetched_sp (len : Nat) : (s.fetched len).sp = s.sp := rfl
@[simp] theorem State.fetched_p (len : Nat) : (s.fetched len).p = s.p := rfl
@[simp] theorem State.fetched_pc (len : Nat) : (s.fetched len).pc = s.pc + BitVec.ofNat 16 len := rfl
@[simp] theorem State.fetched_ic (len : Nat) : (s.fetched len).ic = s.ic + 1 := rfl
@[simp] theorem State.fetched_cyc (len : Nat) : (s.fetched len).cyc = s.cyc := rfl
@[simp] theorem State.fetched_bus (len : Nat) : (s.fetched len).bus = s.bus := rfl
@[simp] theorem State.fetched_status (len : Nat) : (s.fetched len).status = s.status := rfl
@[simp] theorem State.fetched_params (len : Nat) : (s.fetched len).params = s.params := rfl
@[simp] theorem State.fetched_draws (len : Nat) : (s.fetched len).draws = s.draws + 1 := rfl

@[simp] theorem State.write_a (addr : Word) (v : Byte) : (s.write addr v).a = s.a := rfl
@[simp] theorem State.write_x (addr : Word) (v : Byte) : (s.write addr v).x = s.x := rfl
@[simp] theorem State.write_y (addr : Word) (v : Byte) : (s.write addr v).y = s.y := rfl
@[simp] theorem State.write_sp (addr : Word) (v : Byte) : (s.write addr v).sp = s.sp := rfl
@[simp] theorem State.write_p (addr : Word) (v : Byte) : (s.write addr v).p = s.p := rfl
@[simp] theorem State.write_pc (addr : Word) (v : Byte) : (s.write addr v).pc = s.pc := rfl
@[simp] theorem State.write_ic (addr : Word) (v : Byte) : (s.write addr v).ic = s.ic := rfl
@[simp] theorem State.write_cyc (addr : Word) (v : Byte) : (s.write addr v).cyc = s.cyc := rfl
@[simp] theorem State.write_bus (addr : Word) (v : Byte) : (s.write addr v).bus = s.bus.write addr v := rfl
@[simp] theorem State.write_status (addr : Word) (v : Byte) : (s.write addr v).status = s.status := rfl
@[simp] theorem State.write_params (addr : Word) (v : Byte) : (s.write addr v).params = s.params := rfl
@[simp] theorem State.write_draws (addr : Word) (v : Byte) : (s.write addr v).draws = s.draws := rfl

@[simp] theorem State.raiseFault_a (k : FaultKind) (op : Byte) : (s.raiseFault k op).a = s.a := rfl
@[simp] theorem State.raiseFault_x (k : FaultKind) (op : Byte) : (s.raiseFault k op).x = s.x := rfl
@[simp] theorem State.raiseFault_y (k : FaultKind) (op : Byte) : (s.raiseFault k op).y = s.y := rfl
@[simp] theorem State.raiseFault_sp (k : FaultKind) (op : Byte) : (s.raiseFault k op).sp = s.sp := rfl
@[simp] theorem State.raiseFault_p (k : FaultKind) (op : Byte) : (s.raiseFault k op).p = s.p := rfl
@[simp] theorem State.raiseFault_pc (k : FaultKind) (op : Byte) : (s.raiseFault k op).pc = s.pc := rfl
@[simp] theorem State.raiseFault_ic (k : FaultKind) (op : Byte) : (s.raiseFault k op).ic = s.ic := rfl
@[simp] theorem State.raiseFault_cyc (k : FaultKind) (op : Byte) : (s.raiseFault k op).cyc = s.cyc := rfl
@[simp] theorem State.raiseFault_bus (k : FaultKind) (op : Byte) : (s.raiseFault k op).bus = s.bus := rfl
@[simp] theorem State.raiseFault_status (k : FaultKind) (op : Byte) :
    (s.raiseFault k op).status = .faulted k s.pc op (s.ic + 1) := rfl
@[simp] theorem State.raiseFault_params (k : FaultKind) (op : Byte) : (s.raiseFault k op).params = s.params := rfl
@[simp] theorem State.raiseFault_draws (k : FaultKind) (op : Byte) : (s.raiseFault k op).draws = s.draws := rfl

@[simp] theorem State.setA_a (v : Byte) : (s.setA v).a = v := rfl
@[simp] theorem State.setA_x (v : Byte) : (s.setA v).x = s.x := rfl
@[simp] theorem State.setA_y (v : Byte) : (s.setA v).y = s.y := rfl
@[simp] theorem State.setA_sp (v : Byte) : (s.setA v).sp = s.sp := rfl
@[simp] theorem State.setA_p (v : Byte) : (s.setA v).p = setNZ s.p v := rfl
@[simp] theorem State.setA_pc (v : Byte) : (s.setA v).pc = s.pc := rfl
@[simp] theorem State.setA_ic (v : Byte) : (s.setA v).ic = s.ic := rfl
@[simp] theorem State.setA_cyc (v : Byte) : (s.setA v).cyc = s.cyc := rfl
@[simp] theorem State.setA_bus (v : Byte) : (s.setA v).bus = s.bus := rfl
@[simp] theorem State.setA_status (v : Byte) : (s.setA v).status = s.status := rfl
@[simp] theorem State.setA_params (v : Byte) : (s.setA v).params = s.params := rfl
@[simp] theorem State.setA_draws (v : Byte) : (s.setA v).draws = s.draws := rfl

@[simp] theorem State.setX_a (v : Byte) : (s.setX v).a = s.a := rfl
@[simp] theorem State.setX_x (v : Byte) : (s.setX v).x = v := rfl
@[simp] theorem State.setX_y (v : Byte) : (s.setX v).y = s.y := rfl
@[simp] theorem State.setX_sp (v : Byte) : (s.setX v).sp = s.sp := rfl
@[simp] theorem State.setX_p (v : Byte) : (s.setX v).p = setNZ s.p v := rfl
@[simp] theorem State.setX_pc (v : Byte) : (s.setX v).pc = s.pc := rfl
@[simp] theorem State.setX_ic (v : Byte) : (s.setX v).ic = s.ic := rfl
@[simp] theorem State.setX_cyc (v : Byte) : (s.setX v).cyc = s.cyc := rfl
@[simp] theorem State.setX_bus (v : Byte) : (s.setX v).bus = s.bus := rfl
@[simp] theorem State.setX_status (v : Byte) : (s.setX v).status = s.status := rfl
@[simp] theorem State.setX_params (v : Byte) : (s.setX v).params = s.params := rfl
@[simp] theorem State.setX_draws (v : Byte) : (s.setX v).draws = s.draws := rfl

@[simp] theorem State.setY_a (v : Byte) : (s.setY v).a = s.a := rfl
@[simp] theorem State.setY_x (v : Byte) : (s.setY v).x = s.x := rfl
@[simp] theorem State.setY_y (v : Byte) : (s.setY v).y = v := rfl
@[simp] theorem State.setY_sp (v : Byte) : (s.setY v).sp = s.sp := rfl
@[simp] theorem State.setY_p (v : Byte) : (s.setY v).p = setNZ s.p v := rfl
@[simp] theorem State.setY_pc (v : Byte) : (s.setY v).pc = s.pc := rfl
@[simp] theorem State.setY_ic (v : Byte) : (s.setY v).ic = s.ic := rfl
@[simp] theorem State.setY_cyc (v : Byte) : (s.setY v).cyc = s.cyc := rfl
@[simp] theorem State.setY_bus (v : Byte) : (s.setY v).bus = s.bus := rfl
@[simp] theorem State.setY_status (v : Byte) : (s.setY v).status = s.status := rfl
@[simp] theorem State.setY_params (v : Byte) : (s.setY v).params = s.params := rfl
@[simp] theorem State.setY_draws (v : Byte) : (s.setY v).draws = s.draws := rfl

@[simp] theorem State.addToA_a (o : Byte) : (s.addToA o).a = addResult s.a o (getFlag s.p .c) := rfl
@[simp] theorem State.addToA_x (o : Byte) : (s.addToA o).x = s.x := rfl
@[simp] theorem State.addToA_y (o : Byte) : (s.addToA o).y = s.y := rfl
@[simp] theorem State.addToA_sp (o : Byte) : (s.addToA o).sp = s.sp := rfl
@[simp] theorem State.addToA_p (o : Byte) : (s.addToA o).p = addNZCV s.p s.a o (getFlag s.p .c) := rfl
@[simp] theorem State.addToA_pc (o : Byte) : (s.addToA o).pc = s.pc := rfl
@[simp] theorem State.addToA_ic (o : Byte) : (s.addToA o).ic = s.ic := rfl
@[simp] theorem State.addToA_cyc (o : Byte) : (s.addToA o).cyc = s.cyc := rfl
@[simp] theorem State.addToA_bus (o : Byte) : (s.addToA o).bus = s.bus := rfl
@[simp] theorem State.addToA_status (o : Byte) : (s.addToA o).status = s.status := rfl
@[simp] theorem State.addToA_params (o : Byte) : (s.addToA o).params = s.params := rfl
@[simp] theorem State.addToA_draws (o : Byte) : (s.addToA o).draws = s.draws := rfl

@[simp] theorem State.compare_a (r m : Byte) : (s.compare r m).a = s.a := rfl
@[simp] theorem State.compare_x (r m : Byte) : (s.compare r m).x = s.x := rfl
@[simp] theorem State.compare_y (r m : Byte) : (s.compare r m).y = s.y := rfl
@[simp] theorem State.compare_sp (r m : Byte) : (s.compare r m).sp = s.sp := rfl
@[simp] theorem State.compare_p (r m : Byte) : (s.compare r m).p = compareFlags s.p r m := rfl
@[simp] theorem State.compare_pc (r m : Byte) : (s.compare r m).pc = s.pc := rfl
@[simp] theorem State.compare_ic (r m : Byte) : (s.compare r m).ic = s.ic := rfl
@[simp] theorem State.compare_cyc (r m : Byte) : (s.compare r m).cyc = s.cyc := rfl
@[simp] theorem State.compare_bus (r m : Byte) : (s.compare r m).bus = s.bus := rfl
@[simp] theorem State.compare_status (r m : Byte) : (s.compare r m).status = s.status := rfl
@[simp] theorem State.compare_params (r m : Byte) : (s.compare r m).params = s.params := rfl
@[simp] theorem State.compare_draws (r m : Byte) : (s.compare r m).draws = s.draws := rfl

@[simp] theorem State.bitTest_a (m : Byte) : (s.bitTest m).a = s.a := rfl
@[simp] theorem State.bitTest_x (m : Byte) : (s.bitTest m).x = s.x := rfl
@[simp] theorem State.bitTest_y (m : Byte) : (s.bitTest m).y = s.y := rfl
@[simp] theorem State.bitTest_sp (m : Byte) : (s.bitTest m).sp = s.sp := rfl
@[simp] theorem State.bitTest_p (m : Byte) : (s.bitTest m).p = bitFlags s.p s.a m := rfl
@[simp] theorem State.bitTest_pc (m : Byte) : (s.bitTest m).pc = s.pc := rfl
@[simp] theorem State.bitTest_ic (m : Byte) : (s.bitTest m).ic = s.ic := rfl
@[simp] theorem State.bitTest_cyc (m : Byte) : (s.bitTest m).cyc = s.cyc := rfl
@[simp] theorem State.bitTest_bus (m : Byte) : (s.bitTest m).bus = s.bus := rfl
@[simp] theorem State.bitTest_status (m : Byte) : (s.bitTest m).status = s.status := rfl
@[simp] theorem State.bitTest_params (m : Byte) : (s.bitTest m).params = s.params := rfl
@[simp] theorem State.bitTest_draws (m : Byte) : (s.bitTest m).draws = s.draws := rfl

@[simp] theorem State.withFlag_a (f : Flag) (on : Bool) : (s.withFlag f on).a = s.a := rfl
@[simp] theorem State.withFlag_x (f : Flag) (on : Bool) : (s.withFlag f on).x = s.x := rfl
@[simp] theorem State.withFlag_y (f : Flag) (on : Bool) : (s.withFlag f on).y = s.y := rfl
@[simp] theorem State.withFlag_sp (f : Flag) (on : Bool) : (s.withFlag f on).sp = s.sp := rfl
@[simp] theorem State.withFlag_p (f : Flag) (on : Bool) : (s.withFlag f on).p = setFlag s.p f on := rfl
@[simp] theorem State.withFlag_pc (f : Flag) (on : Bool) : (s.withFlag f on).pc = s.pc := rfl
@[simp] theorem State.withFlag_ic (f : Flag) (on : Bool) : (s.withFlag f on).ic = s.ic := rfl
@[simp] theorem State.withFlag_cyc (f : Flag) (on : Bool) : (s.withFlag f on).cyc = s.cyc := rfl
@[simp] theorem State.withFlag_bus (f : Flag) (on : Bool) : (s.withFlag f on).bus = s.bus := rfl
@[simp] theorem State.withFlag_status (f : Flag) (on : Bool) : (s.withFlag f on).status = s.status := rfl
@[simp] theorem State.withFlag_params (f : Flag) (on : Bool) : (s.withFlag f on).params = s.params := rfl
@[simp] theorem State.withFlag_draws (f : Flag) (on : Bool) : (s.withFlag f on).draws = s.draws := rfl

@[simp] theorem State.jump_a (target : Word) : (s.jump target).a = s.a := rfl
@[simp] theorem State.jump_x (target : Word) : (s.jump target).x = s.x := rfl
@[simp] theorem State.jump_y (target : Word) : (s.jump target).y = s.y := rfl
@[simp] theorem State.jump_sp (target : Word) : (s.jump target).sp = s.sp := rfl
@[simp] theorem State.jump_p (target : Word) : (s.jump target).p = s.p := rfl
@[simp] theorem State.jump_pc (target : Word) : (s.jump target).pc = target := rfl
@[simp] theorem State.jump_ic (target : Word) : (s.jump target).ic = s.ic := rfl
@[simp] theorem State.jump_cyc (target : Word) : (s.jump target).cyc = s.cyc := rfl
@[simp] theorem State.jump_bus (target : Word) : (s.jump target).bus = s.bus := rfl
@[simp] theorem State.jump_status (target : Word) : (s.jump target).status = s.status := rfl
@[simp] theorem State.jump_params (target : Word) : (s.jump target).params = s.params := rfl
@[simp] theorem State.jump_draws (target : Word) : (s.jump target).draws = s.draws := rfl

@[simp] theorem State.store_a (m : MemOperand) (v : Byte) : (s.store m v).a = s.a := rfl
@[simp] theorem State.store_x (m : MemOperand) (v : Byte) : (s.store m v).x = s.x := rfl
@[simp] theorem State.store_y (m : MemOperand) (v : Byte) : (s.store m v).y = s.y := rfl
@[simp] theorem State.store_sp (m : MemOperand) (v : Byte) : (s.store m v).sp = s.sp := rfl
@[simp] theorem State.store_p (m : MemOperand) (v : Byte) : (s.store m v).p = s.p := rfl
@[simp] theorem State.store_pc (m : MemOperand) (v : Byte) : (s.store m v).pc = s.pc := rfl
@[simp] theorem State.store_ic (m : MemOperand) (v : Byte) : (s.store m v).ic = s.ic := rfl
@[simp] theorem State.store_cyc (m : MemOperand) (v : Byte) : (s.store m v).cyc = s.cyc := rfl
@[simp] theorem State.store_bus (m : MemOperand) (v : Byte) : (s.store m v).bus = s.bus.write (s.ea m) v := rfl
@[simp] theorem State.store_status (m : MemOperand) (v : Byte) : (s.store m v).status = s.status := rfl
@[simp] theorem State.store_params (m : MemOperand) (v : Byte) : (s.store m v).params = s.params := rfl
@[simp] theorem State.store_draws (m : MemOperand) (v : Byte) : (s.store m v).draws = s.draws := rfl

@[simp] theorem State.modify_a (m : MemOperand) (f : Byte → Byte → Modified) : (s.modify m f).a = s.a := rfl
@[simp] theorem State.modify_x (m : MemOperand) (f : Byte → Byte → Modified) : (s.modify m f).x = s.x := rfl
@[simp] theorem State.modify_y (m : MemOperand) (f : Byte → Byte → Modified) : (s.modify m f).y = s.y := rfl
@[simp] theorem State.modify_sp (m : MemOperand) (f : Byte → Byte → Modified) : (s.modify m f).sp = s.sp := rfl
@[simp] theorem State.modify_p (m : MemOperand) (f : Byte → Byte → Modified) :
    (s.modify m f).p = (f s.p (s.load m)).p := rfl
@[simp] theorem State.modify_pc (m : MemOperand) (f : Byte → Byte → Modified) : (s.modify m f).pc = s.pc := rfl
@[simp] theorem State.modify_ic (m : MemOperand) (f : Byte → Byte → Modified) : (s.modify m f).ic = s.ic := rfl
@[simp] theorem State.modify_cyc (m : MemOperand) (f : Byte → Byte → Modified) : (s.modify m f).cyc = s.cyc := rfl
@[simp] theorem State.modify_bus (m : MemOperand) (f : Byte → Byte → Modified) :
    (s.modify m f).bus = s.bus.write (s.ea m) (f s.p (s.load m)).value := rfl
@[simp] theorem State.modify_status (m : MemOperand) (f : Byte → Byte → Modified) :
    (s.modify m f).status = s.status := rfl
@[simp] theorem State.modify_params (m : MemOperand) (f : Byte → Byte → Modified) :
    (s.modify m f).params = s.params := rfl
@[simp] theorem State.modify_draws (m : MemOperand) (f : Byte → Byte → Modified) :
    (s.modify m f).draws = s.draws := rfl

@[simp] theorem State.modifyA_a (f : Byte → Byte → Modified) : (s.modifyA f).a = (f s.p s.a).value := rfl
@[simp] theorem State.modifyA_x (f : Byte → Byte → Modified) : (s.modifyA f).x = s.x := rfl
@[simp] theorem State.modifyA_y (f : Byte → Byte → Modified) : (s.modifyA f).y = s.y := rfl
@[simp] theorem State.modifyA_sp (f : Byte → Byte → Modified) : (s.modifyA f).sp = s.sp := rfl
@[simp] theorem State.modifyA_p (f : Byte → Byte → Modified) : (s.modifyA f).p = (f s.p s.a).p := rfl
@[simp] theorem State.modifyA_pc (f : Byte → Byte → Modified) : (s.modifyA f).pc = s.pc := rfl
@[simp] theorem State.modifyA_ic (f : Byte → Byte → Modified) : (s.modifyA f).ic = s.ic := rfl
@[simp] theorem State.modifyA_cyc (f : Byte → Byte → Modified) : (s.modifyA f).cyc = s.cyc := rfl
@[simp] theorem State.modifyA_bus (f : Byte → Byte → Modified) : (s.modifyA f).bus = s.bus := rfl
@[simp] theorem State.modifyA_status (f : Byte → Byte → Modified) : (s.modifyA f).status = s.status := rfl
@[simp] theorem State.modifyA_params (f : Byte → Byte → Modified) : (s.modifyA f).params = s.params := rfl
@[simp] theorem State.modifyA_draws (f : Byte → Byte → Modified) : (s.modifyA f).draws = s.draws := rfl

@[simp] theorem State.modifyX_a (f : Byte → Byte → Modified) : (s.modifyX f).a = s.a := rfl
@[simp] theorem State.modifyX_x (f : Byte → Byte → Modified) : (s.modifyX f).x = (f s.p s.x).value := rfl
@[simp] theorem State.modifyX_y (f : Byte → Byte → Modified) : (s.modifyX f).y = s.y := rfl
@[simp] theorem State.modifyX_sp (f : Byte → Byte → Modified) : (s.modifyX f).sp = s.sp := rfl
@[simp] theorem State.modifyX_p (f : Byte → Byte → Modified) : (s.modifyX f).p = (f s.p s.x).p := rfl
@[simp] theorem State.modifyX_pc (f : Byte → Byte → Modified) : (s.modifyX f).pc = s.pc := rfl
@[simp] theorem State.modifyX_ic (f : Byte → Byte → Modified) : (s.modifyX f).ic = s.ic := rfl
@[simp] theorem State.modifyX_cyc (f : Byte → Byte → Modified) : (s.modifyX f).cyc = s.cyc := rfl
@[simp] theorem State.modifyX_bus (f : Byte → Byte → Modified) : (s.modifyX f).bus = s.bus := rfl
@[simp] theorem State.modifyX_status (f : Byte → Byte → Modified) : (s.modifyX f).status = s.status := rfl
@[simp] theorem State.modifyX_params (f : Byte → Byte → Modified) : (s.modifyX f).params = s.params := rfl
@[simp] theorem State.modifyX_draws (f : Byte → Byte → Modified) : (s.modifyX f).draws = s.draws := rfl

@[simp] theorem State.modifyY_a (f : Byte → Byte → Modified) : (s.modifyY f).a = s.a := rfl
@[simp] theorem State.modifyY_x (f : Byte → Byte → Modified) : (s.modifyY f).x = s.x := rfl
@[simp] theorem State.modifyY_y (f : Byte → Byte → Modified) : (s.modifyY f).y = (f s.p s.y).value := rfl
@[simp] theorem State.modifyY_sp (f : Byte → Byte → Modified) : (s.modifyY f).sp = s.sp := rfl
@[simp] theorem State.modifyY_p (f : Byte → Byte → Modified) : (s.modifyY f).p = (f s.p s.y).p := rfl
@[simp] theorem State.modifyY_pc (f : Byte → Byte → Modified) : (s.modifyY f).pc = s.pc := rfl
@[simp] theorem State.modifyY_ic (f : Byte → Byte → Modified) : (s.modifyY f).ic = s.ic := rfl
@[simp] theorem State.modifyY_cyc (f : Byte → Byte → Modified) : (s.modifyY f).cyc = s.cyc := rfl
@[simp] theorem State.modifyY_bus (f : Byte → Byte → Modified) : (s.modifyY f).bus = s.bus := rfl
@[simp] theorem State.modifyY_status (f : Byte → Byte → Modified) : (s.modifyY f).status = s.status := rfl
@[simp] theorem State.modifyY_params (f : Byte → Byte → Modified) : (s.modifyY f).params = s.params := rfl
@[simp] theorem State.modifyY_draws (f : Byte → Byte → Modified) : (s.modifyY f).draws = s.draws := rfl

end Sys2Proof.Machine
end

