-- ==== Sys2Proof/Laws/Exec.lean ====
section
/-! SUPPORT. What the shared operations and a step can do, said once: the stack operations, the two ways an instruction
ends, and the three ways a step ends. -/

namespace Sys2Proof.Machine

/-- A bus after a list of writes, in order. -/
def Bus.writes (b : Bus) (ws : List (Word × Byte)) : Bus := ws.foldl (fun b w => b.write w.1 w.2) b

/-- A property of the bus that every write keeps is kept by every list of writes. -/
theorem Bus.writes_keep {P : Bus → Prop} (hw : ∀ b addr v, P b → P (b.write addr v)) (ws : List (Word × Byte)) {b : Bus}
    (h : P b) : P (b.writes ws) := by
  induction ws generalizing b with
  | nil => exact h
  | cons w rest ih => exact ih (hw b w.1 w.2 h)

/-- `MemRead(addr, 1)` is the bus read at that address, under the draw of its access (R10, R55). -/
theorem State.read_eq (s : State) (k : Access) (addr : Word) :
    s.read k addr = s.bus.read (Config.rasterLowRead s.draws k) addr := rfl

/-- `Load(mode)` of a memory operand is the read of its effective address (R119). -/
theorem State.load_eq (s : State) (m : MemOperand) : s.load m = s.read .data (s.ea m) := rfl

/-- A push: when it answers, S was not 0, one stack byte is written and S is one less (R169). -/
theorem State.push_eq_some {s t : State} {v : Byte} :
    s.push v = some t ↔
      s.sp ≠ 0x00 ∧ t = { s with bus := s.bus.write (stackAddress s.sp) v, sp := s.sp - 1 } := by
  unfold State.push
  by_cases h : s.sp = 0x00
  · simp only [h, if_true, reduceCtorEq, ne_eq, not_true_eq_false, false_and]
  · simp only [h, if_false, Option.some.injEq, ne_eq, not_false_eq_true, true_and, State.write, eq_comm]

/-- A pull: when it answers, S was not 0xFF, S is one more and the byte is the one S then names (R170). -/
theorem State.pull_eq_some {s t : State} {v : Byte} :
    s.pull = some (t, v) ↔
      s.sp ≠ 0xFF ∧ t = { s with sp := s.sp + 1 } ∧ v = s.read .stack (stackAddress (s.sp + 1)) := by
  unfold State.pull
  by_cases h : s.sp = 0xFF
  · simp only [h, if_true, reduceCtorEq, ne_eq, not_true_eq_false, false_and]
  · simp only [h, if_false, Option.some.injEq, Prod.mk.injEq, ne_eq, not_false_eq_true, true_and, eq_comm]

/-- JSR's pushes: when they answer, S was neither 0 nor 1, and both bytes of PC - 1 are written (R166). -/
theorem State.pushReturn_eq_some {s t : State} :
    s.pushReturn = some t ↔
      s.sp ≠ 0x00 ∧ s.sp ≠ 0x01 ∧
        t = { s with
              bus := (s.bus.write (stackAddress s.sp) (highByte (s.pc - 1))).write (stackAddress (s.sp - 1))
                (lowByte (s.pc - 1))
              sp := s.sp - 1 - 1 } := by
  unfold State.pushReturn
  by_cases h0 : s.sp = 0x00
  · simp [h0]
  by_cases h1 : s.sp = 0x01
  · simp [h1]
  have h2 : s.sp - 1 ≠ 0x00 := by
    intro h
    apply h1
    bv_omega
  simp only [h0, h1, or_self, if_false, State.push, Option.bind_some, State.write, h2, ne_eq, not_false_eq_true, true_and,
    Option.some.injEq, eq_comm]

/-- RTS's pulls: when they answer, S was neither 0xFE nor 0xFF, S is two more and PC is one past the word pulled (R167). -/
theorem State.pullReturn_eq_some {s t : State} :
    s.pullReturn = some t ↔
      s.sp ≠ 0xFE ∧ s.sp ≠ 0xFF ∧
        t = { s with
              sp := s.sp + 1 + 1
              pc := wordOf (s.read .stack (stackAddress (s.sp + 1 + 1))) (s.read .stack (stackAddress (s.sp + 1))) + 1 } := by
  unfold State.pullReturn
  by_cases h0 : s.sp = 0xFE
  · simp [h0]
  by_cases h1 : s.sp = 0xFF
  · simp [h1]
  have h2 : s.sp + 1 ≠ 0xFF := by
    intro h
    apply h0
    bv_omega
  simp only [h0, h1, or_self, if_false, State.pull, Option.bind_some, h2, Option.map_some, ne_eq, not_false_eq_true,
    true_and, Option.some.injEq, eq_comm, State.jump, State.read]

/-- A push faults exactly at S = 0 (R169). -/
theorem State.push_eq_none {s : State} {v : Byte} : s.push v = none ↔ s.sp = 0x00 := by
  unfold State.push
  by_cases h : s.sp = 0x00 <;> simp [h]

/-- A pull faults exactly at S = 0xFF (R170). -/
theorem State.pull_eq_none {s : State} : s.pull = none ↔ s.sp = 0xFF := by
  unfold State.pull
  by_cases h : s.sp = 0xFF <;> simp [h]

/-- JSR faults exactly at S = 0 and S = 1 (R166). -/
theorem State.pushReturn_eq_none {s : State} : s.pushReturn = none ↔ s.sp = 0x00 ∨ s.sp = 0x01 := by
  constructor
  · intro h
    by_contra hn
    rw [not_or] at hn
    rw [State.pushReturn_eq_some.mpr ⟨hn.1, hn.2, rfl⟩] at h
    cases h
  · intro h
    unfold State.pushReturn
    rw [if_pos h]

/-- RTS faults exactly at S = 0xFE and S = 0xFF (R167). -/
theorem State.pullReturn_eq_none {s : State} : s.pullReturn = none ↔ s.sp = 0xFE ∨ s.sp = 0xFF := by
  constructor
  · intro h
    by_contra hn
    rw [not_or] at hn
    rw [State.pullReturn_eq_some.mpr ⟨hn.1, hn.2, rfl⟩] at h
    cases h
  · intro h
    unfold State.pullReturn
    rw [if_pos h]

/-- A stack byte lies in page 1, `0x0100 + S`, and never wraps (R22). -/
theorem stackAddress_toNat (sp : Byte) : (stackAddress sp).toNat = 256 + sp.toNat := by
  unfold stackAddress
  rw [wordOf_toNat]
  rfl

/-- A branch changes PC, IC and the numbering of draws alone (R156). -/
theorem State.branchIf_eq {s t : State} {cond : Bool} {off : Byte} (h : s.branchIf cond off = .next t) :
    ∃ target, t = { s.fetched 2 with pc := target } := by
  unfold State.branchIf at h
  cases cond
  · cases h
    exact ⟨_, rfl⟩
  · cases h
    exact ⟨_, rfl⟩

/-- An instruction that may fault ends in its result or in the fault (R189, R190). -/
theorem State.orFault_cases (s : State) (k : FaultKind) (op : Byte) (r : Option State) :
    (∃ t, r = some t ∧ s.orFault k op r = .next t) ∨ (r = none ∧ s.orFault k op r = .next (s.raiseFault k op)) := by
  cases r with
  | some t => exact .inl ⟨t, rfl, rfl⟩
  | none => exact .inr ⟨rfl, rfl⟩

/-- What every instruction that completes does to the state outside A, X, Y, S, P and PC. -/
structure Completed (s t : State) : Prop where
  ic : t.ic = s.ic + 1
  cyc : t.cyc = s.cyc
  status : t.status = s.status
  params : t.params = s.params
  draws : t.draws = s.draws + 1
  bus : ∃ ws, t.bus = s.bus.writes ws

/-- The end of an instruction: completed, or the fault of its opcode byte with everything else as it was. -/
def Ended (i : Instr) (s t : State) : Prop := Completed s t ∨ ∃ k, t = s.raiseFault k (opcodeOf i)

theorem State.orFault_ended {i : Instr} {s : State} {k : FaultKind} {r : Option State}
    (h : ∀ t, r = some t → Completed s t) : ∃ t, s.orFault k (opcodeOf i) r = .next t ∧ Ended i s t := by
  rcases State.orFault_cases s k (opcodeOf i) r with ⟨t, hr, e⟩ | ⟨-, e⟩
  · exact ⟨t, e, .inl (h t hr)⟩
  · exact ⟨_, e, .inr ⟨k, rfl⟩⟩

theorem State.branchIf_ended (i : Instr) (s : State) (cond : Bool) (off : Byte) :
    ∃ t, s.branchIf cond off = .next t ∧ Ended i s t := by
  cases cond
  · exact ⟨_, rfl, .inl ⟨rfl, rfl, rfl, rfl, rfl, [], rfl⟩⟩
  · exact ⟨_, rfl, .inl ⟨rfl, rfl, rfl, rfl, rfl, [], rfl⟩⟩

theorem push_ended (s : State) (v : Byte) (i : Instr) :
    ∃ t, s.orFault .stackOverflow (opcodeOf i) ((s.fetched 1).push v) = .next t ∧ Ended i s t := by
  refine State.orFault_ended fun t h => ?_
  obtain ⟨-, rfl⟩ := State.push_eq_some.mp h
  exact ⟨rfl, rfl, rfl, rfl, rfl, [(_, _)], rfl⟩

theorem pull_ended (s : State) (f : State × Byte → State) (i : Instr) (hf : ∀ u v, Completed s u → Completed s (f (u, v))) :
    ∃ t, s.orFault .stackUnderflow (opcodeOf i) ((s.fetched 1).pull.map f) = .next t ∧ Ended i s t := by
  refine State.orFault_ended fun t h => ?_
  obtain ⟨⟨u, v⟩, hp, rfl⟩ := Option.map_eq_some_iff.mp h
  obtain ⟨-, rfl, -⟩ := State.pull_eq_some.mp hp
  exact hf _ _ ⟨rfl, rfl, rfl, rfl, rfl, [], rfl⟩

/-- Every instruction answers a next state: it completes, or it raises a fault. No instruction is refused. -/
theorem exec_ended (i : Instr) (s : State) : ∃ t, exec i s = .next t ∧ Ended i s t := by
  cases i
  case bpl nn => exact State.branchIf_ended _ s _ nn
  case bmi nn => exact State.branchIf_ended _ s _ nn
  case bvc nn => exact State.branchIf_ended _ s _ nn
  case bvs nn => exact State.branchIf_ended _ s _ nn
  case bcc nn => exact State.branchIf_ended _ s _ nn
  case bcs nn => exact State.branchIf_ended _ s _ nn
  case bne nn => exact State.branchIf_ended _ s _ nn
  case beq nn => exact State.branchIf_ended _ s _ nn
  case pha => exact push_ended s _ .pha
  case php => exact push_ended s _ .php
  case pla => exact pull_ended s _ .pla fun u v h => ⟨h.ic, h.cyc, h.status, h.params, h.draws, h.bus⟩
  case plp => exact pull_ended s _ .plp fun u v h => ⟨h.ic, h.cyc, h.status, h.params, h.draws, h.bus⟩
  case jsr hhll =>
    refine State.orFault_ended (i := .jsr hhll) fun t h => ?_
    obtain ⟨u, hu, rfl⟩ := Option.map_eq_some_iff.mp h
    obtain ⟨-, -, rfl⟩ := State.pushReturn_eq_some.mp hu
    exact ⟨rfl, rfl, rfl, rfl, rfl, [(_, _), (_, _)], rfl⟩
  case rts =>
    refine State.orFault_ended (i := .rts) fun t h => ?_
    obtain ⟨-, -, rfl⟩ := State.pullReturn_eq_some.mp h
    exact ⟨rfl, rfl, rfl, rfl, rfl, [], rfl⟩
  case brk => exact ⟨_, rfl, .inr ⟨_, rfl⟩⟩
  case rti => exact ⟨_, rfl, .inr ⟨_, rfl⟩⟩
  case aslAbs _ | aslAbsx _ | aslZp _ | aslZpx _ | decAbs _ | decAbsx _ | decZp _ | decZpx _ | incAbs _ |
      incAbsx _ | incZp _ | incZpx _ | lsrAbs _ | lsrAbsx _ | lsrZp _ | lsrZpx _ | rolAbs _ | rolAbsx _ |
      rolZp _ | rolZpx _ | rorAbs _ | rorAbsx _ | rorZp _ | rorZpx _ | staAbs _ | staAbsx _ | staAbsy _ |
      staIndx _ | staIndy _ | staZp _ | staZpx _ | stxAbs _ | stxZp _ | stxZpy _ | styAbs _ | styZp _ | styZpx _ =>
    exact ⟨_, rfl, .inl ⟨rfl, rfl, rfl, rfl, rfl, [(_, _)], rfl⟩⟩
  all_goals exact ⟨_, rfl, .inl ⟨rfl, rfl, rfl, rfl, rfl, [], rfl⟩⟩

/-- The inversion of `exec`: when it answers `t`, the instruction completed or raised its fault. -/
theorem exec_cases {i : Instr} {s t : State} (h : exec i s = .next t) : Ended i s t := by
  obtain ⟨u, hu, he⟩ := exec_ended i s
  rw [hu] at h
  cases h
  exact he

/-- What is fetched begins with the opcode byte at PC (R186). -/
theorem State.fetchBytes_eq_cons (s : State) : ∃ rest, s.fetchBytes = s.read .opcode s.pc :: rest := by
  unfold State.fetchBytes
  dsimp only
  split <;> exact ⟨_, rfl⟩

/-- The inversion of `step`: when it answers `t`, the state was running, and `t` is what the decoded instruction leaves
or the `UnknownOpcode` fault. -/
theorem step_cases {s t : State} (h : step s = .next t) :
    s.status = .running ∧
      ((∃ i rest, decode s.fetchBytes = some (i, rest) ∧ exec i s = .next t) ∨
        (decode s.fetchBytes = none ∧ t = s.raiseFault .unknownOpcode (s.read .opcode s.pc))) := by
  unfold step at h
  split at h
  · cases h
  · rename_i hs
    refine ⟨hs, ?_⟩
    split at h
    · rename_i i rest hd
      exact .inl ⟨i, rest, hd, h⟩
    · rename_i hd
      cases h
      exact .inr ⟨hd, rfl⟩

end Sys2Proof.Machine
end

