-- ==== Sys2Proof/Laws/Flags.lean ====
section
/-! SUPPORT. What each flag computation does to each flag and to the unnamed bit of the status byte. -/

namespace Sys2Proof.Machine

/-- A flag written reads as written, and every other flag as before. -/
@[simp] theorem getFlag_setFlag (p : Byte) (f g : Flag) (on : Bool) :
    getFlag (setFlag p f on) g = if g = f then on else getFlag p g := by
  cases on <;> cases f <;> cases g <;> simp [getFlag, setFlag, Flag.bit]

/-- No flag write touches bit 5. -/
@[simp] theorem setFlag_bit5 (p : Byte) (f : Flag) (on : Bool) : (setFlag p f on)[5] = p[5] := by
  cases on <;> cases f <;> simp [setFlag, Flag.bit]

/-- SetNZ, flag by flag (R132). -/
@[simp] theorem getFlag_setNZ (p v : Byte) (g : Flag) :
    getFlag (setNZ p v) g = if g = .n then v.getLsbD 7 else if g = .z then v == 0 else getFlag p g := by
  simp [setNZ]

@[simp] theorem setNZ_bit5 (p v : Byte) : (setNZ p v)[5] = p[5] := by simp [setNZ]

/-- Add's N, Z and C, flag by flag (R133). -/
@[simp] theorem getFlag_addNZC (p r o : Byte) (cin : Bool) (g : Flag) :
    getFlag (addNZC p r o cin) g =
      if g = .c then (addSum r o cin).testBit 8
      else if g = .n then (addResult r o cin).getLsbD 7
      else if g = .z then addResult r o cin == 0 else getFlag p g := by
  simp [addNZC]

@[simp] theorem addNZC_bit5 (p r o : Byte) (cin : Bool) : (addNZC p r o cin)[5] = p[5] := by
  simp [addNZC]

/-- Add's flags with V, flag by flag (R133). -/
@[simp] theorem getFlag_addNZCV (p r o : Byte) (cin : Bool) (g : Flag) :
    getFlag (addNZCV p r o cin) g = if g = .v then addOverflow r o cin else getFlag (addNZC p r o cin) g := by
  simp [addNZCV]

@[simp] theorem addNZCV_bit5 (p r o : Byte) (cin : Bool) : (addNZCV p r o cin)[5] = p[5] := by
  simp [addNZCV]

/-- BIT's flags, flag by flag (R142). -/
@[simp] theorem getFlag_bitFlags (p a m : Byte) (g : Flag) :
    getFlag (bitFlags p a m) g =
      if g = .v then m.getLsbD 6 else if g = .n then m.getLsbD 7 else if g = .z then a &&& m == 0 else getFlag p g := by
  simp [bitFlags]

@[simp] theorem bitFlags_bit5 (p a m : Byte) : (bitFlags p a m)[5] = p[5] := by simp [bitFlags]

/-- The flags of a shift or rotate, flag by flag (R151). -/
@[simp] theorem getFlag_shifted (p r : Byte) (out : Bool) (g : Flag) :
    getFlag (shifted p out r).p g =
      if g = .n then r.getLsbD 7 else if g = .z then r == 0 else if g = .c then out else getFlag p g := by
  simp [shifted]

@[simp] theorem shifted_bit5 (p r : Byte) (out : Bool) : (shifted p out r).p[5] = p[5] := by simp [shifted]

/-- Two status bytes whose seven flags and bit 5 agree are equal. -/
theorem status_ext {p q : Byte} (h : ∀ f, getFlag p f = getFlag q f) (h5 : p.getLsbD 5 = q.getLsbD 5) : p = q := by
  refine BitVec.eq_of_getLsbD_eq fun k hk => ?_
  have : k = 0 ∨ k = 1 ∨ k = 2 ∨ k = 3 ∨ k = 4 ∨ k = 5 ∨ k = 6 ∨ k = 7 := by omega
  rcases this with rfl | rfl | rfl | rfl | rfl | rfl | rfl | rfl
  · exact h .c
  · exact h .z
  · exact h .i
  · exact h .d
  · exact h .b
  · exact h5
  · exact h .v
  · exact h .n

end Sys2Proof.Machine
end

