-- ==== Sys2Proof/Laws/PerInstr.lean ====
section
/-! SUPPORT. Per-instruction laws of the encoding. -/

namespace Sys2Proof.Laws.Consumes

/-- Decoding the bytes of `i` followed by any others consumes exactly the bytes of `i` (R94). -/
def Statement (i : Instr) : Prop := ∀ rest : List Byte, (decode (encode i ++ rest)).map Prod.snd = some rest

theorem brk : Statement .brk := fun _ => rfl
theorem oraIndx (nn : Byte) : Statement (.oraIndx nn) := fun _ => rfl
theorem oraZp (nn : Byte) : Statement (.oraZp nn) := fun _ => rfl
theorem aslZp (nn : Byte) : Statement (.aslZp nn) := fun _ => rfl
theorem php : Statement .php := fun _ => rfl
theorem oraImm (nn : Byte) : Statement (.oraImm nn) := fun _ => rfl
theorem aslAcc : Statement .aslAcc := fun _ => rfl
theorem oraAbs (hhll : Word) : Statement (.oraAbs hhll) := fun _ => rfl
theorem aslAbs (hhll : Word) : Statement (.aslAbs hhll) := fun _ => rfl
theorem bpl (nn : Byte) : Statement (.bpl nn) := fun _ => rfl
theorem oraIndy (nn : Byte) : Statement (.oraIndy nn) := fun _ => rfl
theorem oraZpx (nn : Byte) : Statement (.oraZpx nn) := fun _ => rfl
theorem aslZpx (nn : Byte) : Statement (.aslZpx nn) := fun _ => rfl
theorem clc : Statement .clc := fun _ => rfl
theorem oraAbsy (hhll : Word) : Statement (.oraAbsy hhll) := fun _ => rfl
theorem oraAbsx (hhll : Word) : Statement (.oraAbsx hhll) := fun _ => rfl
theorem aslAbsx (hhll : Word) : Statement (.aslAbsx hhll) := fun _ => rfl
theorem jsr (hhll : Word) : Statement (.jsr hhll) := fun _ => rfl
theorem andIndx (nn : Byte) : Statement (.andIndx nn) := fun _ => rfl
theorem bitZp (nn : Byte) : Statement (.bitZp nn) := fun _ => rfl
theorem andZp (nn : Byte) : Statement (.andZp nn) := fun _ => rfl
theorem rolZp (nn : Byte) : Statement (.rolZp nn) := fun _ => rfl
theorem plp : Statement .plp := fun _ => rfl
theorem andImm (nn : Byte) : Statement (.andImm nn) := fun _ => rfl
theorem rolAcc : Statement .rolAcc := fun _ => rfl
theorem bitAbs (hhll : Word) : Statement (.bitAbs hhll) := fun _ => rfl
theorem andAbs (hhll : Word) : Statement (.andAbs hhll) := fun _ => rfl
theorem rolAbs (hhll : Word) : Statement (.rolAbs hhll) := fun _ => rfl
theorem bmi (nn : Byte) : Statement (.bmi nn) := fun _ => rfl
theorem andIndy (nn : Byte) : Statement (.andIndy nn) := fun _ => rfl
theorem andZpx (nn : Byte) : Statement (.andZpx nn) := fun _ => rfl
theorem rolZpx (nn : Byte) : Statement (.rolZpx nn) := fun _ => rfl
theorem sec : Statement .sec := fun _ => rfl
theorem andAbsy (hhll : Word) : Statement (.andAbsy hhll) := fun _ => rfl
theorem andAbsx (hhll : Word) : Statement (.andAbsx hhll) := fun _ => rfl
theorem rolAbsx (hhll : Word) : Statement (.rolAbsx hhll) := fun _ => rfl
theorem rti : Statement .rti := fun _ => rfl
theorem eorIndx (nn : Byte) : Statement (.eorIndx nn) := fun _ => rfl
theorem eorZp (nn : Byte) : Statement (.eorZp nn) := fun _ => rfl
theorem lsrZp (nn : Byte) : Statement (.lsrZp nn) := fun _ => rfl
theorem pha : Statement .pha := fun _ => rfl
theorem eorImm (nn : Byte) : Statement (.eorImm nn) := fun _ => rfl
theorem lsrAcc : Statement .lsrAcc := fun _ => rfl
theorem jmpAbs (hhll : Word) : Statement (.jmpAbs hhll) := fun _ => rfl
theorem eorAbs (hhll : Word) : Statement (.eorAbs hhll) := fun _ => rfl
theorem lsrAbs (hhll : Word) : Statement (.lsrAbs hhll) := fun _ => rfl
theorem bvc (nn : Byte) : Statement (.bvc nn) := fun _ => rfl
theorem eorIndy (nn : Byte) : Statement (.eorIndy nn) := fun _ => rfl
theorem eorZpx (nn : Byte) : Statement (.eorZpx nn) := fun _ => rfl
theorem lsrZpx (nn : Byte) : Statement (.lsrZpx nn) := fun _ => rfl
theorem cli : Statement .cli := fun _ => rfl
theorem eorAbsy (hhll : Word) : Statement (.eorAbsy hhll) := fun _ => rfl
theorem eorAbsx (hhll : Word) : Statement (.eorAbsx hhll) := fun _ => rfl
theorem lsrAbsx (hhll : Word) : Statement (.lsrAbsx hhll) := fun _ => rfl
theorem rts : Statement .rts := fun _ => rfl
theorem adcIndx (nn : Byte) : Statement (.adcIndx nn) := fun _ => rfl
theorem adcZp (nn : Byte) : Statement (.adcZp nn) := fun _ => rfl
theorem rorZp (nn : Byte) : Statement (.rorZp nn) := fun _ => rfl
theorem pla : Statement .pla := fun _ => rfl
theorem adcImm (nn : Byte) : Statement (.adcImm nn) := fun _ => rfl
theorem rorAcc : Statement .rorAcc := fun _ => rfl
theorem jmpInd (hhll : Word) : Statement (.jmpInd hhll) := fun _ => rfl
theorem adcAbs (hhll : Word) : Statement (.adcAbs hhll) := fun _ => rfl
theorem rorAbs (hhll : Word) : Statement (.rorAbs hhll) := fun _ => rfl
theorem bvs (nn : Byte) : Statement (.bvs nn) := fun _ => rfl
theorem adcIndy (nn : Byte) : Statement (.adcIndy nn) := fun _ => rfl
theorem adcZpx (nn : Byte) : Statement (.adcZpx nn) := fun _ => rfl
theorem rorZpx (nn : Byte) : Statement (.rorZpx nn) := fun _ => rfl
theorem sei : Statement .sei := fun _ => rfl
theorem adcAbsy (hhll : Word) : Statement (.adcAbsy hhll) := fun _ => rfl
theorem adcAbsx (hhll : Word) : Statement (.adcAbsx hhll) := fun _ => rfl
theorem rorAbsx (hhll : Word) : Statement (.rorAbsx hhll) := fun _ => rfl
theorem staIndx (nn : Byte) : Statement (.staIndx nn) := fun _ => rfl
theorem styZp (nn : Byte) : Statement (.styZp nn) := fun _ => rfl
theorem staZp (nn : Byte) : Statement (.staZp nn) := fun _ => rfl
theorem stxZp (nn : Byte) : Statement (.stxZp nn) := fun _ => rfl
theorem dey : Statement .dey := fun _ => rfl
theorem txa : Statement .txa := fun _ => rfl
theorem styAbs (hhll : Word) : Statement (.styAbs hhll) := fun _ => rfl
theorem staAbs (hhll : Word) : Statement (.staAbs hhll) := fun _ => rfl
theorem stxAbs (hhll : Word) : Statement (.stxAbs hhll) := fun _ => rfl
theorem bcc (nn : Byte) : Statement (.bcc nn) := fun _ => rfl
theorem staIndy (nn : Byte) : Statement (.staIndy nn) := fun _ => rfl
theorem styZpx (nn : Byte) : Statement (.styZpx nn) := fun _ => rfl
theorem staZpx (nn : Byte) : Statement (.staZpx nn) := fun _ => rfl
theorem stxZpy (nn : Byte) : Statement (.stxZpy nn) := fun _ => rfl
theorem tya : Statement .tya := fun _ => rfl
theorem staAbsy (hhll : Word) : Statement (.staAbsy hhll) := fun _ => rfl
theorem txs : Statement .txs := fun _ => rfl
theorem staAbsx (hhll : Word) : Statement (.staAbsx hhll) := fun _ => rfl
theorem ldyImm (nn : Byte) : Statement (.ldyImm nn) := fun _ => rfl
theorem ldaIndx (nn : Byte) : Statement (.ldaIndx nn) := fun _ => rfl
theorem ldxImm (nn : Byte) : Statement (.ldxImm nn) := fun _ => rfl
theorem ldyZp (nn : Byte) : Statement (.ldyZp nn) := fun _ => rfl
theorem ldaZp (nn : Byte) : Statement (.ldaZp nn) := fun _ => rfl
theorem ldxZp (nn : Byte) : Statement (.ldxZp nn) := fun _ => rfl
theorem tay : Statement .tay := fun _ => rfl
theorem ldaImm (nn : Byte) : Statement (.ldaImm nn) := fun _ => rfl
theorem tax : Statement .tax := fun _ => rfl
theorem ldyAbs (hhll : Word) : Statement (.ldyAbs hhll) := fun _ => rfl
theorem ldaAbs (hhll : Word) : Statement (.ldaAbs hhll) := fun _ => rfl
theorem ldxAbs (hhll : Word) : Statement (.ldxAbs hhll) := fun _ => rfl
theorem bcs (nn : Byte) : Statement (.bcs nn) := fun _ => rfl
theorem ldaIndy (nn : Byte) : Statement (.ldaIndy nn) := fun _ => rfl
theorem ldyZpx (nn : Byte) : Statement (.ldyZpx nn) := fun _ => rfl
theorem ldaZpx (nn : Byte) : Statement (.ldaZpx nn) := fun _ => rfl
theorem ldxZpy (nn : Byte) : Statement (.ldxZpy nn) := fun _ => rfl
theorem clv : Statement .clv := fun _ => rfl
theorem ldaAbsy (hhll : Word) : Statement (.ldaAbsy hhll) := fun _ => rfl
theorem tsx : Statement .tsx := fun _ => rfl
theorem ldyAbsx (hhll : Word) : Statement (.ldyAbsx hhll) := fun _ => rfl
theorem ldaAbsx (hhll : Word) : Statement (.ldaAbsx hhll) := fun _ => rfl
theorem ldxAbsy (hhll : Word) : Statement (.ldxAbsy hhll) := fun _ => rfl
theorem cpyImm (nn : Byte) : Statement (.cpyImm nn) := fun _ => rfl
theorem cmpIndx (nn : Byte) : Statement (.cmpIndx nn) := fun _ => rfl
theorem cpyZp (nn : Byte) : Statement (.cpyZp nn) := fun _ => rfl
theorem cmpZp (nn : Byte) : Statement (.cmpZp nn) := fun _ => rfl
theorem decZp (nn : Byte) : Statement (.decZp nn) := fun _ => rfl
theorem iny : Statement .iny := fun _ => rfl
theorem cmpImm (nn : Byte) : Statement (.cmpImm nn) := fun _ => rfl
theorem dex : Statement .dex := fun _ => rfl
theorem cpyAbs (hhll : Word) : Statement (.cpyAbs hhll) := fun _ => rfl
theorem cmpAbs (hhll : Word) : Statement (.cmpAbs hhll) := fun _ => rfl
theorem decAbs (hhll : Word) : Statement (.decAbs hhll) := fun _ => rfl
theorem bne (nn : Byte) : Statement (.bne nn) := fun _ => rfl
theorem cmpIndy (nn : Byte) : Statement (.cmpIndy nn) := fun _ => rfl
theorem cmpZpx (nn : Byte) : Statement (.cmpZpx nn) := fun _ => rfl
theorem decZpx (nn : Byte) : Statement (.decZpx nn) := fun _ => rfl
theorem cld : Statement .cld := fun _ => rfl
theorem cmpAbsy (hhll : Word) : Statement (.cmpAbsy hhll) := fun _ => rfl
theorem cmpAbsx (hhll : Word) : Statement (.cmpAbsx hhll) := fun _ => rfl
theorem decAbsx (hhll : Word) : Statement (.decAbsx hhll) := fun _ => rfl
theorem cpxImm (nn : Byte) : Statement (.cpxImm nn) := fun _ => rfl
theorem sbcIndx (nn : Byte) : Statement (.sbcIndx nn) := fun _ => rfl
theorem cpxZp (nn : Byte) : Statement (.cpxZp nn) := fun _ => rfl
theorem sbcZp (nn : Byte) : Statement (.sbcZp nn) := fun _ => rfl
theorem incZp (nn : Byte) : Statement (.incZp nn) := fun _ => rfl
theorem inx : Statement .inx := fun _ => rfl
theorem sbcImm (nn : Byte) : Statement (.sbcImm nn) := fun _ => rfl
theorem nop : Statement .nop := fun _ => rfl
theorem cpxAbs (hhll : Word) : Statement (.cpxAbs hhll) := fun _ => rfl
theorem sbcAbs (hhll : Word) : Statement (.sbcAbs hhll) := fun _ => rfl
theorem incAbs (hhll : Word) : Statement (.incAbs hhll) := fun _ => rfl
theorem beq (nn : Byte) : Statement (.beq nn) := fun _ => rfl
theorem sbcIndy (nn : Byte) : Statement (.sbcIndy nn) := fun _ => rfl
theorem sbcZpx (nn : Byte) : Statement (.sbcZpx nn) := fun _ => rfl
theorem incZpx (nn : Byte) : Statement (.incZpx nn) := fun _ => rfl
theorem sed : Statement .sed := fun _ => rfl
theorem sbcAbsy (hhll : Word) : Statement (.sbcAbsy hhll) := fun _ => rfl
theorem sbcAbsx (hhll : Word) : Statement (.sbcAbsx hhll) := fun _ => rfl
theorem incAbsx (hhll : Word) : Statement (.incAbsx hhll) := fun _ => rfl

end Sys2Proof.Laws.Consumes
end

