-- ==== Sys2Proof/Tests/Slice0.lean ====
section
/-! SUPPORT. Tests on fixed values, taken from the worked vectors of 95_test_vectors.md and the encodings of
30_encoding.md, and the witnesses that the hypotheses of the statements can be met. -/

namespace Sys2Proof.Tests

open Sys2Proof.Machine Sys2Proof.Claims

/-! ## Well-formedness, encodings -/

theorem test_wf_no_bytes : encodingWf [] = false := by decide

theorem test_wf_empty_opcode : encodingWf [0x02] = false ∧ encodingWf [0xFF, 0x00] = false := by decide

theorem test_wf_missing_operand : encodingWf [0xA9] = false ∧ encodingWf [0x20, 0x00] = false := by decide

theorem test_wf_operand_too_many : encodingWf [0xEA, 0x00] = false ∧ encodingWf [0xA9, 0x05, 0x00] = false := by decide

theorem test_wf_accepts : encodingWf [0xEA] = true ∧ encodingWf [0xA9, 0x05] = true ∧
    encodingWf [0x20, 0x00, 0xC1] = true := by decide

/-! ## Decoding: the opcode byte of R97 and its operand bytes, low byte first (R94), every constructor -/

theorem test_decode_loads_1 :
    ∀ e ∈ ([
        ([0xA1, 0x9C], .ldaIndx 0x9C), ([0xA5, 0x9C], .ldaZp 0x9C), ([0xA9, 0x9C], .ldaImm 0x9C),
        ([0xAD, 0x34, 0xD2], .ldaAbs 0xD234), ([0xB1, 0x9C], .ldaIndy 0x9C), ([0xB5, 0x9C], .ldaZpx 0x9C),
        ([0xB9, 0x34, 0xD2], .ldaAbsy 0xD234), ([0xBD, 0x34, 0xD2], .ldaAbsx 0xD234),
        ([0xA2, 0x9C], .ldxImm 0x9C), ([0xA6, 0x9C], .ldxZp 0x9C), ([0xAE, 0x34, 0xD2], .ldxAbs 0xD234),
        ([0xB6, 0x9C], .ldxZpy 0x9C), ([0xBE, 0x34, 0xD2], .ldxAbsy 0xD234), ([0xA0, 0x9C], .ldyImm 0x9C)] :
        List (List Byte × Instr)), decode e.1 = some (e.2, []) := by decide

theorem test_decode_loads_2 :
    ∀ e ∈ ([
        ([0xA4, 0x9C], .ldyZp 0x9C), ([0xAC, 0x34, 0xD2], .ldyAbs 0xD234), ([0xB4, 0x9C], .ldyZpx 0x9C),
        ([0xBC, 0x34, 0xD2], .ldyAbsx 0xD234)] :
        List (List Byte × Instr)), decode e.1 = some (e.2, []) := by decide

theorem test_decode_stores :
    ∀ e ∈ ([
        ([0x81, 0x9C], .staIndx 0x9C), ([0x85, 0x9C], .staZp 0x9C), ([0x8D, 0x34, 0xD2], .staAbs 0xD234),
        ([0x91, 0x9C], .staIndy 0x9C), ([0x95, 0x9C], .staZpx 0x9C), ([0x99, 0x34, 0xD2], .staAbsy 0xD234),
        ([0x9D, 0x34, 0xD2], .staAbsx 0xD234), ([0x86, 0x9C], .stxZp 0x9C),
        ([0x8E, 0x34, 0xD2], .stxAbs 0xD234), ([0x96, 0x9C], .stxZpy 0x9C), ([0x84, 0x9C], .styZp 0x9C),
        ([0x8C, 0x34, 0xD2], .styAbs 0xD234), ([0x94, 0x9C], .styZpx 0x9C)] :
        List (List Byte × Instr)), decode e.1 = some (e.2, []) := by decide

theorem test_decode_transfers :
    ∀ e ∈ ([
        ([0xAA], .tax), ([0xA8], .tay), ([0x8A], .txa), ([0x98], .tya), ([0xBA], .tsx), ([0x9A], .txs)] :
        List (List Byte × Instr)), decode e.1 = some (e.2, []) := by decide

theorem test_decode_add_subtract_1 :
    ∀ e ∈ ([
        ([0x61, 0x9C], .adcIndx 0x9C), ([0x65, 0x9C], .adcZp 0x9C), ([0x69, 0x9C], .adcImm 0x9C),
        ([0x6D, 0x34, 0xD2], .adcAbs 0xD234), ([0x71, 0x9C], .adcIndy 0x9C), ([0x75, 0x9C], .adcZpx 0x9C),
        ([0x79, 0x34, 0xD2], .adcAbsy 0xD234), ([0x7D, 0x34, 0xD2], .adcAbsx 0xD234),
        ([0xE1, 0x9C], .sbcIndx 0x9C), ([0xE5, 0x9C], .sbcZp 0x9C), ([0xE9, 0x9C], .sbcImm 0x9C),
        ([0xED, 0x34, 0xD2], .sbcAbs 0xD234), ([0xF1, 0x9C], .sbcIndy 0x9C), ([0xF5, 0x9C], .sbcZpx 0x9C)] :
        List (List Byte × Instr)), decode e.1 = some (e.2, []) := by decide

theorem test_decode_add_subtract_2 :
    ∀ e ∈ ([
        ([0xF9, 0x34, 0xD2], .sbcAbsy 0xD234), ([0xFD, 0x34, 0xD2], .sbcAbsx 0xD234)] :
        List (List Byte × Instr)), decode e.1 = some (e.2, []) := by decide

theorem test_decode_comparisons :
    ∀ e ∈ ([
        ([0xC1, 0x9C], .cmpIndx 0x9C), ([0xC5, 0x9C], .cmpZp 0x9C), ([0xC9, 0x9C], .cmpImm 0x9C),
        ([0xCD, 0x34, 0xD2], .cmpAbs 0xD234), ([0xD1, 0x9C], .cmpIndy 0x9C), ([0xD5, 0x9C], .cmpZpx 0x9C),
        ([0xD9, 0x34, 0xD2], .cmpAbsy 0xD234), ([0xDD, 0x34, 0xD2], .cmpAbsx 0xD234),
        ([0xE0, 0x9C], .cpxImm 0x9C), ([0xE4, 0x9C], .cpxZp 0x9C), ([0xEC, 0x34, 0xD2], .cpxAbs 0xD234),
        ([0xC0, 0x9C], .cpyImm 0x9C), ([0xC4, 0x9C], .cpyZp 0x9C), ([0xCC, 0x34, 0xD2], .cpyAbs 0xD234)] :
        List (List Byte × Instr)), decode e.1 = some (e.2, []) := by decide

theorem test_decode_logic_1 :
    ∀ e ∈ ([
        ([0x21, 0x9C], .andIndx 0x9C), ([0x25, 0x9C], .andZp 0x9C), ([0x29, 0x9C], .andImm 0x9C),
        ([0x2D, 0x34, 0xD2], .andAbs 0xD234), ([0x31, 0x9C], .andIndy 0x9C), ([0x35, 0x9C], .andZpx 0x9C),
        ([0x39, 0x34, 0xD2], .andAbsy 0xD234), ([0x3D, 0x34, 0xD2], .andAbsx 0xD234),
        ([0x01, 0x9C], .oraIndx 0x9C), ([0x05, 0x9C], .oraZp 0x9C), ([0x09, 0x9C], .oraImm 0x9C),
        ([0x0D, 0x34, 0xD2], .oraAbs 0xD234), ([0x11, 0x9C], .oraIndy 0x9C), ([0x15, 0x9C], .oraZpx 0x9C)] :
        List (List Byte × Instr)), decode e.1 = some (e.2, []) := by decide

theorem test_decode_logic_2 :
    ∀ e ∈ ([
        ([0x19, 0x34, 0xD2], .oraAbsy 0xD234), ([0x1D, 0x34, 0xD2], .oraAbsx 0xD234),
        ([0x41, 0x9C], .eorIndx 0x9C), ([0x45, 0x9C], .eorZp 0x9C), ([0x49, 0x9C], .eorImm 0x9C),
        ([0x4D, 0x34, 0xD2], .eorAbs 0xD234), ([0x51, 0x9C], .eorIndy 0x9C), ([0x55, 0x9C], .eorZpx 0x9C),
        ([0x59, 0x34, 0xD2], .eorAbsy 0xD234), ([0x5D, 0x34, 0xD2], .eorAbsx 0xD234),
        ([0x24, 0x9C], .bitZp 0x9C), ([0x2C, 0x34, 0xD2], .bitAbs 0xD234)] :
        List (List Byte × Instr)), decode e.1 = some (e.2, []) := by decide

theorem test_decode_increments :
    ∀ e ∈ ([
        ([0xE6, 0x9C], .incZp 0x9C), ([0xEE, 0x34, 0xD2], .incAbs 0xD234), ([0xF6, 0x9C], .incZpx 0x9C),
        ([0xFE, 0x34, 0xD2], .incAbsx 0xD234), ([0xC6, 0x9C], .decZp 0x9C),
        ([0xCE, 0x34, 0xD2], .decAbs 0xD234), ([0xD6, 0x9C], .decZpx 0x9C),
        ([0xDE, 0x34, 0xD2], .decAbsx 0xD234), ([0xE8], .inx), ([0xC8], .iny), ([0xCA], .dex), ([0x88], .dey)] :
        List (List Byte × Instr)), decode e.1 = some (e.2, []) := by decide

theorem test_decode_shifts_1 :
    ∀ e ∈ ([
        ([0x06, 0x9C], .aslZp 0x9C), ([0x0A], .aslAcc), ([0x0E, 0x34, 0xD2], .aslAbs 0xD234),
        ([0x16, 0x9C], .aslZpx 0x9C), ([0x1E, 0x34, 0xD2], .aslAbsx 0xD234), ([0x46, 0x9C], .lsrZp 0x9C),
        ([0x4A], .lsrAcc), ([0x4E, 0x34, 0xD2], .lsrAbs 0xD234), ([0x56, 0x9C], .lsrZpx 0x9C),
        ([0x5E, 0x34, 0xD2], .lsrAbsx 0xD234), ([0x26, 0x9C], .rolZp 0x9C), ([0x2A], .rolAcc),
        ([0x2E, 0x34, 0xD2], .rolAbs 0xD234), ([0x36, 0x9C], .rolZpx 0x9C)] :
        List (List Byte × Instr)), decode e.1 = some (e.2, []) := by decide

theorem test_decode_shifts_2 :
    ∀ e ∈ ([
        ([0x3E, 0x34, 0xD2], .rolAbsx 0xD234), ([0x66, 0x9C], .rorZp 0x9C), ([0x6A], .rorAcc),
        ([0x6E, 0x34, 0xD2], .rorAbs 0xD234), ([0x76, 0x9C], .rorZpx 0x9C),
        ([0x7E, 0x34, 0xD2], .rorAbsx 0xD234)] :
        List (List Byte × Instr)), decode e.1 = some (e.2, []) := by decide

theorem test_decode_branches :
    ∀ e ∈ ([
        ([0x10, 0x9C], .bpl 0x9C), ([0x30, 0x9C], .bmi 0x9C), ([0x50, 0x9C], .bvc 0x9C),
        ([0x70, 0x9C], .bvs 0x9C), ([0x90, 0x9C], .bcc 0x9C), ([0xB0, 0x9C], .bcs 0x9C),
        ([0xD0, 0x9C], .bne 0x9C), ([0xF0, 0x9C], .beq 0x9C)] :
        List (List Byte × Instr)), decode e.1 = some (e.2, []) := by decide

theorem test_decode_jumps_and_calls :
    ∀ e ∈ ([
        ([0x4C, 0x34, 0xD2], .jmpAbs 0xD234), ([0x6C, 0x34, 0xD2], .jmpInd 0xD234),
        ([0x20, 0x34, 0xD2], .jsr 0xD234), ([0x60], .rts)] :
        List (List Byte × Instr)), decode e.1 = some (e.2, []) := by decide

theorem test_decode_stack :
    ∀ e ∈ ([
        ([0x48], .pha), ([0x08], .php), ([0x68], .pla), ([0x28], .plp)] :
        List (List Byte × Instr)), decode e.1 = some (e.2, []) := by decide

theorem test_decode_flags_and_system :
    ∀ e ∈ ([
        ([0x18], .clc), ([0x38], .sec), ([0x58], .cli), ([0x78], .sei), ([0xD8], .cld), ([0xF8], .sed),
        ([0xB8], .clv), ([0xEA], .nop), ([0x00], .brk), ([0x40], .rti)] :
        List (List Byte × Instr)), decode e.1 = some (e.2, []) := by decide

theorem test_decode_leaves_the_rest : decode [0xA9, 0x05, 0xEA, 0x00] = some (.ldaImm 0x05, [0xEA, 0x00]) := by decide

theorem test_decode_refuses : decode [] = none ∧ decode [0x03, 0x00, 0x00] = none ∧ decode [0xA9] = none ∧
    decode [0x4C, 0x00] = none := by decide

/-- The 105 empty bytes of R98 and no others decode to nothing. -/
theorem test_decode_empty_bytes :
    ∀ op : Byte, decode [op, 0x00, 0x00] = none ↔ op ∈ illegalOpcodes := by decide

theorem test_table_word : decodeTableWord 24 0xD234AD = some (.ldaAbs 0xD234) ∧
    decodeTableWord 8 0xAD = some (.ldaAbs 0x0000) ∧ decodeTableWord 16 0x05A9 = some (.ldaImm 0x05) := by decide

/-! ## One step on a small state (95_test_vectors.md, default launch state of its conventions) -/

/-- The state that an answer carries. -/
def nextOf (r : Result) : Option State :=
  match r with
  | .next t => some t
  | .fault _ => none
  | .refused _ => none

/-- A state with RAM cells set. -/
def cells (s : State) (ram : List (Nat × Byte)) : State :=
  { s with bus := { s.bus with ram := ram.foldl (fun m e => m.write e.1 e.2) s.bus.ram } }

/-- A state with code in RAM at an address and PC there. -/
def code (s : State) (addr : Nat) (bytes : List Byte) : State :=
  { cells s ((List.range bytes.length).zip bytes |>.map fun e => (addr + e.1, e.2)) with pc := BitVec.ofNat 16 addr }

/-- The default launch state with the instruction under test at $C000. -/
def at_ (bytes : List Byte) : State := code State.reset 0xC000 bytes

/-- What one step from a state answers, read through `f`. -/
def after {α : Type} (s : State) (f : State → α) : Option α := (nextOf (step s)).map f

/-- An answer is a next state with a property that evaluates to true. -/
theorem nextWith {r : Result} (p : State → Bool) (h : (nextOf r).any p = true) : ∃ t, r = .next t ∧ p t = true := by
  cases r with
  | next t => exact ⟨t, rfl, h⟩
  | fault _ => cases h
  | refused _ => cases h

/-- Every instruction answers a next state. -/
theorem answers (i : Instr) (s : State) : ∃ t, exec i s = .next t := (exec_ended i s).imp fun _ h => h.1

/-- A2 -/
theorem test_ldx_zpy_page_wrap :
    after (cells ({ at_ [0xB6, 0xF0] with y := 0x20 }) [(0x10, 0x77)]) (fun t => (t.x, t.p, t.pc)) =
      some (0x77, 0x00, 0xC002) := by decide

/-- A3: the effective address is $0001, PORT -/
theorem test_lda_absx_wrap :
    after ({ at_ [0xBD, 0xFF, 0xFF] with x := 0x02 }) (fun t => (t.a, t.pc)) =
      some (0x27, 0xC003) := by decide

/-- A4 -/
theorem test_lda_absy_page_crossing :
    after (cells ({ at_ [0xB9, 0xF0, 0xC0] with y := 0x20 }) [(0xC110, 0x99)]) (fun t => (t.a, t.p)) =
      some (0x99, 0x80) := by decide

/-- A6: without ZP_PTR_WRAP the high byte is at $0100 -/
theorem test_lda_indx_pointer_no_wrap :
    after (cells ({ at_ [0xA1, 0xFF] with params := { State.reset.params with zpPtrWrap := false } }) [(0xFF, 0x00), (0x100, 0xC2), (0xC200, 0x11), (0x2F00, 0x22)]) (fun t => t.a) =
      some 0x11 := by decide

/-- A7: with ZP_PTR_WRAP the high byte is at $0000, DDR -/
theorem test_lda_indx_pointer_wrap :
    after (cells ({ at_ [0xA1, 0xFF] with params := { State.reset.params with zpPtrWrap := true } }) [(0xFF, 0x00), (0x100, 0xC2), (0xC200, 0x11), (0x2F00, 0x22)]) (fun t => t.a) =
      some 0x22 := by decide

/-- A8 -/
theorem test_lda_indy :
    after (cells ({ at_ [0xB1, 0x40] with y := 0x01 }) [(0x40, 0xFF), (0x41, 0xC0), (0xC100, 0x66)]) (fun t => t.a) =
      some 0x66 := by decide

/-- A9: the effective address is $0001, PORT -/
theorem test_lda_indy_wrap :
    after (cells ({ at_ [0xB1, 0x40] with y := 0x02 }) [(0x40, 0xFF), (0x41, 0xFF)]) (fun t => t.a) =
      some 0x27 := by decide

/-- A10 -/
theorem test_jmp_ind_no_page_wrap :
    after (cells ({ at_ [0x6C, 0xFF, 0xC1] with params := { State.reset.params with jmpIndPageWrap := false } }) [(0xC1FF, 0x00), (0xC200, 0xC4), (0xC100, 0xC5)]) (fun t => t.pc) =
      some 0xC400 := by decide

/-- A11 -/
theorem test_jmp_ind_page_wrap :
    after (cells ({ at_ [0x6C, 0xFF, 0xC1] with params := { State.reset.params with jmpIndPageWrap := true } }) [(0xC1FF, 0x00), (0xC200, 0xC4), (0xC100, 0xC5)]) (fun t => t.pc) =
      some 0xC500 := by decide

/-- The machine with everything RAM: PORT = 0 (A12, A13). -/
def allRam : State := { State.reset with bus := { State.reset.bus with port := 0x00 } }

/-- A12: the branch target wraps below 0. -/
theorem test_bmi_wraps :
    after { code allRam 0x0010 [0x30, 0x80] with p := 0x80 } (fun t => t.pc) = some 0xFF92 := by decide

/-- A13: the operand is fetched from $0000, DDR. -/
theorem test_fetch_wraps : after (code allRam 0xFFFF [0xA9]) (fun t => (t.a, t.pc)) = some (0x2F, 0x0001) := by decide

/-- S7: the effective address is $0000, DDR -/
theorem test_lda_zpx_page_wrap :
    after ({ at_ [0xB5, 0xFF] with x := 0x01 }) (fun t => (t.a, t.p)) =
      some (0x2F, 0x00) := by decide

/-- L1 -/
theorem test_lda_imm :
    after (at_ [0xA9, 0x80]) (fun t => (t.a, t.p)) =
      some (0x80, 0x80) := by decide

/-- L2 -/
theorem test_ldy_imm :
    after (at_ [0xA0, 0x80]) (fun t => (t.y, t.p)) =
      some (0x80, 0x80) := by decide

/-- L3 -/
theorem test_sta_ddr :
    after ({ at_ [0x85, 0x00] with a := 0x05 }) (fun t => (t.bus.ddr, t.bus.port, t.bus.ram.read 0x0000, t.p)) =
      some (0x05, 0x27, 0x00, 0x00) := by decide

/-- L4 -/
theorem test_sta_port :
    after ({ at_ [0x85, 0x01] with a := 0xFF }) (fun t => (t.bus.port, t.bus.bank)) =
      some (0x2F, { a := .basic, d := .io, e := .kernal }) := by decide

/-- L5 -/
theorem test_sta_abs_port_masked :
    after { at_ [0x8D, 0x01, 0x00] with a := 0xFF, bus := { (at_ [0x8D, 0x01, 0x00]).bus with ddr := 0x00 } }
      (fun t => (t.bus.port, t.bus.bank)) = some (0x00, { a := .ram, d := .ram, e := .ram }) := by decide

/-- L6 -/
theorem test_stx_zp :
    after ({ at_ [0x86, 0x10] with x := 0x3C, p := 0x02 }) (fun t => (t.bus.ram.read 0x10, t.p)) =
      some (0x3C, 0x02) := by decide

/-- STY, R125, in the colour RAM (R76) -/
theorem test_sty_abs :
    after ({ at_ [0x8C, 0x01, 0xD8] with y := 0x3C }) (fun t => (t.bus.color.read 1, t.bus.ram.read 0xD801)) =
      some (0xC, 0x00) := by decide

/-- L7 -/
theorem test_tax :
    after ({ at_ [0xAA] with a := 0x80 }) (fun t => (t.x, t.p)) =
      some (0x80, 0x80) := by decide

/-- R127 -/
theorem test_tay :
    after ({ at_ [0xA8] with a := 0x00, y := 0x05 }) (fun t => (t.y, t.p)) =
      some (0x00, 0x02) := by decide

/-- R128 -/
theorem test_txa :
    after ({ at_ [0x8A] with x := 0x81, a := 0x05 }) (fun t => (t.a, t.x, t.p)) =
      some (0x81, 0x81, 0x80) := by decide

/-- L8 -/
theorem test_tya :
    after ({ at_ [0x98] with y := 0x00, a := 0x05 }) (fun t => (t.a, t.p)) =
      some (0x00, 0x02) := by decide

/-- L9 -/
theorem test_tsx :
    after ({ at_ [0xBA] with sp := 0x00, x := 0x07 }) (fun t => (t.x, t.p)) =
      some (0x00, 0x02) := by decide

/-- L10 -/
theorem test_txs :
    after ({ at_ [0x9A] with x := 0x00, p := 0x80 }) (fun t => (t.sp, t.p)) =
      some (0x00, 0x80) := by decide

/-- S4 -/
theorem test_adc_overflow :
    after ({ at_ [0x69, 0x50] with a := 0x50 }) (fun t => (t.a, t.p, t.pc)) =
      some (0xA0, 0xC0, 0xC002) := by decide

/-- AL4 -/
theorem test_adc_decimal_is_binary :
    after ({ at_ [0x69, 0x01] with a := 0x09, p := 0x08 }) (fun t => (t.a, t.p)) =
      some (0x0A, 0x08) := by decide

/-- AL2, zero page -/
theorem test_adc_carry_in :
    after (cells ({ at_ [0x65, 0x10] with a := 0x7F, p := 0x01 }) [(0x10, 0x00)]) (fun t => (t.a, t.p)) =
      some (0x80, 0xC0) := by decide

/-- AL3, absolute -/
theorem test_adc_carry_out :
    after (cells ({ at_ [0x6D, 0x00, 0xC1] with a := 0x80 }) [(0xC100, 0x80)]) (fun t => (t.a, t.p)) =
      some (0x00, 0x43) := by decide

/-- AL5 -/
theorem test_sbc_borrow_and_overflow :
    after ({ at_ [0xE9, 0xB0] with a := 0x50, p := 0x01 }) (fun t => (t.a, t.p)) =
      some (0xA0, 0xC0) := by decide

/-- AL8 -/
theorem test_sbc_carry_clear :
    after ({ at_ [0xE9, 0x03] with a := 0x05, p := 0x00 }) (fun t => (t.a, t.p)) =
      some (0x01, 0x01) := by decide

/-- AL9, zero page -/
theorem test_sbc_to_zero :
    after (cells ({ at_ [0xE5, 0x10] with a := 0x05, p := 0x01 }) [(0x10, 0x05)]) (fun t => (t.a, t.p)) =
      some (0x00, 0x03) := by decide

/-- AL10 -/
theorem test_cmp_less :
    after ({ at_ [0xC9, 0x20] with a := 0x10 }) (fun t => (t.a, t.p)) =
      some (0x10, 0x80) := by decide

/-- AL12 and S5 -/
theorem test_cmp_keeps_v :
    after ({ at_ [0xC9, 0x10] with a := 0x10, p := 0x40 }) (fun t => (t.a, t.p)) =
      some (0x10, 0x43) := by decide

/-- AL11, zero page -/
theorem test_cmp_unsigned :
    after (cells ({ at_ [0xC5, 0x10] with a := 0x80 }) [(0x10, 0x01)]) (fun t => t.p) =
      some 0x01 := by decide

/-- AL13 -/
theorem test_cpx :
    after (at_ [0xE0, 0x00]) (fun t => t.p) =
      some 0x03 := by decide

/-- AL14 -/
theorem test_cpy :
    after ({ at_ [0xC0, 0xFF] with y := 0x01 }) (fun t => t.p) =
      some 0x00 := by decide

/-- AL15 -/
theorem test_and :
    after ({ at_ [0x29, 0x0F] with a := 0xF0 }) (fun t => (t.a, t.p)) =
      some (0x00, 0x02) := by decide

/-- AL16 -/
theorem test_ora :
    after ({ at_ [0x09, 0x01] with a := 0x80 }) (fun t => (t.a, t.p)) =
      some (0x81, 0x80) := by decide

/-- AL17 -/
theorem test_eor :
    after ({ at_ [0x49, 0xFF] with a := 0xFF }) (fun t => (t.a, t.p)) =
      some (0x00, 0x02) := by decide

/-- AL18 -/
theorem test_bit_sets :
    after (cells ({ at_ [0x24, 0x10] with a := 0x01 }) [(0x10, 0xC0)]) (fun t => (t.a, t.p)) =
      some (0x01, 0xC2) := by decide

/-- AL19 -/
theorem test_bit_clears :
    after (cells ({ at_ [0x24, 0x10] with a := 0x41, p := 0xC0 }) [(0x10, 0x3F)]) (fun t => t.p) =
      some 0x00 := by decide

/-- AL20 -/
theorem test_inc :
    after (cells (at_ [0xE6, 0x10]) [(0x10, 0xFF)]) (fun t => (t.bus.ram.read 0x10, t.p)) =
      some (0x00, 0x02) := by decide

/-- AL21 -/
theorem test_dec :
    after (cells (at_ [0xC6, 0x10]) [(0x10, 0x00)]) (fun t => (t.bus.ram.read 0x10, t.p)) =
      some (0xFF, 0x80) := by decide

/-- AL22 -/
theorem test_inx :
    after ({ at_ [0xE8] with x := 0xFF }) (fun t => (t.x, t.p)) =
      some (0x00, 0x02) := by decide

/-- AL23 -/
theorem test_iny :
    after ({ at_ [0xC8] with y := 0x7F }) (fun t => (t.y, t.p)) =
      some (0x80, 0x80) := by decide

/-- AL24 -/
theorem test_dex :
    after (at_ [0xCA]) (fun t => (t.x, t.p)) =
      some (0xFF, 0x80) := by decide

/-- AL25 -/
theorem test_dey :
    after ({ at_ [0x88] with y := 0x01 }) (fun t => (t.y, t.p)) =
      some (0x00, 0x02) := by decide

/-- AL26: the read is of BASIC ROM, the write goes to the RAM under it. -/
theorem test_inc_under_rom :
    after { at_ [0xEE, 0x00, 0xA0] with bus := { (at_ [0xEE, 0x00, 0xA0]).bus with basicRom := [(0x0000, 0x94)] } }
      (fun t => (t.bus.ram.read 0xA000, t.bus.read 0 0xA000, t.p)) = some (0x95, 0x94, 0x80) := by decide

/-- R152 -/
theorem test_asl_acc :
    after ({ at_ [0x0A] with a := 0xC1 }) (fun t => (t.a, t.p)) =
      some (0x82, 0x81) := by decide

/-- SR1 -/
theorem test_lsr_acc_to_zero :
    after ({ at_ [0x4A] with a := 0x01 }) (fun t => (t.a, t.p)) =
      some (0x00, 0x03) := by decide

/-- SR2 -/
theorem test_lsr_acc_clears_n :
    after ({ at_ [0x4A] with a := 0xFF, p := 0x80 }) (fun t => (t.a, t.p)) =
      some (0x7F, 0x01) := by decide

/-- SR3 -/
theorem test_rol_acc_out :
    after ({ at_ [0x2A] with a := 0x80 }) (fun t => (t.a, t.p)) =
      some (0x00, 0x03) := by decide

/-- SR4 -/
theorem test_rol_acc_in :
    after ({ at_ [0x2A] with a := 0x40, p := 0x01 }) (fun t => (t.a, t.p)) =
      some (0x81, 0x80) := by decide

/-- SR5 -/
theorem test_ror_acc_out :
    after ({ at_ [0x6A] with a := 0x01 }) (fun t => (t.a, t.p)) =
      some (0x00, 0x03) := by decide

/-- SR6 -/
theorem test_ror_acc_in :
    after ({ at_ [0x6A] with a := 0x00, p := 0x01 }) (fun t => (t.a, t.p)) =
      some (0x80, 0x80) := by decide

/-- SR7 -/
theorem test_asl_zp :
    after (cells (at_ [0x06, 0x10]) [(0x10, 0x55)]) (fun t => (t.bus.ram.read 0x10, t.p)) =
      some (0xAA, 0x80) := by decide

/-- SR8 -/
theorem test_ror_zp :
    after (cells ({ at_ [0x66, 0x10] with p := 0x01 }) [(0x10, 0x02)]) (fun t => (t.bus.ram.read 0x10, t.p)) =
      some (0x81, 0x80) := by decide

/-- SR9: the flags come from the unmasked result, the cell keeps four bits. -/
theorem test_asl_colour :
    after { at_ [0x0E, 0x00, 0xD8] with bus := { (at_ [0x0E, 0x00, 0xD8]).bus with color := [(0, 0xF)] } }
      (fun t => (t.bus.color.read 0, t.bus.read 0 0xD800, t.p)) = some (0xE, 0x0E, 0x00) := by decide

/-- C1 -/
theorem test_bne_to_itself :
    after (at_ [0xD0, 0xFE]) (fun t => t.pc) =
      some 0xC000 := by decide

/-- C2 -/
theorem test_bmi_backwards :
    after { code State.reset 0xC010 [0x30, 0x80] with p := 0x80 } (fun t => t.pc) = some 0xBF92 := by decide

/-- S8 -/
theorem test_beq_taken :
    after ({ at_ [0xF0, 0x05] with p := 0x02 }) (fun t => t.pc) =
      some 0xC007 := by decide

/-- S8 -/
theorem test_beq_not_taken :
    after ({ at_ [0xF0, 0x05] with p := 0xFD }) (fun t => t.pc) =
      some 0xC002 := by decide

/-- R157 -/
theorem test_bpl_taken :
    after ({ at_ [0x10, 0x05] with p := 0x7F }) (fun t => t.pc) =
      some 0xC007 := by decide

/-- R157 -/
theorem test_bpl_not_taken :
    after ({ at_ [0x10, 0x05] with p := 0x80 }) (fun t => t.pc) =
      some 0xC002 := by decide

/-- R159 -/
theorem test_bvc_taken :
    after ({ at_ [0x50, 0x05] with p := 0xBF }) (fun t => t.pc) =
      some 0xC007 := by decide

/-- R159 -/
theorem test_bvc_not_taken :
    after ({ at_ [0x50, 0x05] with p := 0x40 }) (fun t => t.pc) =
      some 0xC002 := by decide

/-- R160 -/
theorem test_bvs_taken :
    after ({ at_ [0x70, 0x05] with p := 0x40 }) (fun t => t.pc) =
      some 0xC007 := by decide

/-- R160 -/
theorem test_bvs_not_taken :
    after ({ at_ [0x70, 0x05] with p := 0xBF }) (fun t => t.pc) =
      some 0xC002 := by decide

/-- R161 -/
theorem test_bcc_taken :
    after ({ at_ [0x90, 0x05] with p := 0xFE }) (fun t => t.pc) =
      some 0xC007 := by decide

/-- R161 -/
theorem test_bcc_not_taken :
    after ({ at_ [0x90, 0x05] with p := 0x01 }) (fun t => t.pc) =
      some 0xC002 := by decide

/-- R162 -/
theorem test_bcs_taken :
    after ({ at_ [0xB0, 0x05] with p := 0x01 }) (fun t => t.pc) =
      some 0xC007 := by decide

/-- R162 -/
theorem test_bcs_not_taken :
    after ({ at_ [0xB0, 0x05] with p := 0xFE }) (fun t => t.pc) =
      some 0xC002 := by decide

/-- C3 -/
theorem test_jsr :
    after (at_ [0x20, 0x00, 0xC1]) (fun t => (t.bus.ram.read 0x01FF, t.bus.ram.read 0x01FE, t.sp, t.pc)) =
      some (0xC0, 0x02, 0xFD, 0xC100) := by decide

/-- C5 -/
theorem test_jsr_second_push_checked :
    after ({ at_ [0x20, 0x00, 0xC1] with sp := 0x01 }) (fun t => (t.status, t.sp, t.bus.ram.read 0x0101, t.pc, t.ic)) =
      some (.faulted .stackOverflow 0xC000 0x20 1, 0x01, 0x00, 0xC000, 0) := by decide

/-- C7 -/
theorem test_rts_wraps :
    after (cells ({ at_ [0x60] with sp := 0xFD }) [(0x01FE, 0xFF), (0x01FF, 0xFF)]) (fun t => (t.pc, t.sp)) =
      some (0x0000, 0xFF) := by decide

/-- C8 -/
theorem test_rts_second_pull_checked :
    after ({ at_ [0x60] with sp := 0xFE }) (fun t => (t.status, t.sp)) =
      some (.faulted .stackUnderflow 0xC000 0x60 1, 0xFE) := by decide

/-- C9 -/
theorem test_jmp_abs :
    after (at_ [0x4C, 0x00, 0xC0]) (fun t => (t.pc, t.ic)) =
      some (0xC000, 1) := by decide

/-- F2 -/
theorem test_pha :
    after ({ at_ [0x48] with sp := 0x01, a := 0x07 }) (fun t => (t.bus.ram.read 0x0101, t.sp)) =
      some (0x07, 0x00) := by decide

/-- F3 -/
theorem test_pha_overflow :
    after ({ at_ [0x48] with sp := 0x00 }) (fun t => (t.status, t.bus.ram.read 0x0100, t.sp)) =
      some (.faulted .stackOverflow 0xC000 0x48 1, 0x00, 0x00) := by decide

/-- F4 -/
theorem test_php_with_or :
    after ({ at_ [0x08] with p := 0x01 }) (fun t => (t.bus.ram.read 0x01FF, t.sp, t.p)) =
      some (0x31, 0xFE, 0x01) := by decide

/-- F5 -/
theorem test_php_without_or :
    after ({ at_ [0x08] with p := 0x01, params := { State.reset.params with phpOr := 0b00 } }) (fun t => t.bus.ram.read 0x01FF) =
      some 0x01 := by decide

/-- F6 -/
theorem test_pla :
    after (cells ({ at_ [0x68] with sp := 0xFE }) [(0x01FF, 0x80)]) (fun t => (t.a, t.p, t.sp)) =
      some (0x80, 0x80, 0xFF) := by decide

/-- F7 -/
theorem test_pla_underflow :
    after (at_ [0x68]) (fun t => (t.status, t.sp)) =
      some (.faulted .stackUnderflow 0xC000 0x68 1, 0xFF) := by decide

/-- F8 -/
theorem test_plp :
    after (cells ({ at_ [0x28] with sp := 0xFE }) [(0x01FF, 0xFF)]) (fun t => (t.p, t.sp)) =
      some (0xFF, 0xFF) := by decide

/-- F9 -/
theorem test_plp_underflow :
    after (at_ [0x28]) (fun t => t.status) =
      some (.faulted .stackUnderflow 0xC000 0x28 1) := by decide

/-- F10 -/
theorem test_clc :
    after ({ at_ [0x18] with p := 0xFF }) (fun t => (t.p, t.pc)) =
      some (0xFE, 0xC001) := by decide

/-- F11 -/
theorem test_sec :
    after ({ at_ [0x38] with p := 0x00 }) (fun t => (t.p, t.pc)) =
      some (0x01, 0xC001) := by decide

/-- F12 -/
theorem test_cli :
    after ({ at_ [0x58] with p := 0xFF }) (fun t => (t.p, t.pc)) =
      some (0xFB, 0xC001) := by decide

/-- F13 -/
theorem test_sei :
    after ({ at_ [0x78] with p := 0x00 }) (fun t => (t.p, t.pc)) =
      some (0x04, 0xC001) := by decide

/-- F14 -/
theorem test_cld :
    after ({ at_ [0xD8] with p := 0xFF }) (fun t => (t.p, t.pc)) =
      some (0xF7, 0xC001) := by decide

/-- F15 -/
theorem test_sed :
    after ({ at_ [0xF8] with p := 0x00 }) (fun t => (t.p, t.pc)) =
      some (0x08, 0xC001) := by decide

/-- F16 -/
theorem test_clv :
    after ({ at_ [0xB8] with p := 0xFF }) (fun t => (t.p, t.pc)) =
      some (0xBF, 0xC001) := by decide

/-- F17 -/
theorem test_nop :
    after ({ at_ [0xEA] with p := 0x5A }) (fun t => (t.pc, t.p, t.ic)) =
      some (0xC001, 0x5A, 1) := by decide

/-- F18 -/
theorem test_brk :
    after (at_ [0x00]) (fun t => (t.status, t.pc, t.sp, t.bus.ram.read 0x01FF)) =
      some (.faulted .unsupported 0xC000 0x00 1, 0xC000, 0xFF, 0x00) := by decide

/-- F19 -/
theorem test_rti :
    after (at_ [0x40]) (fun t => (t.status, t.pc)) =
      some (.faulted .unsupported 0xC000 0x40 1, 0xC000) := by decide

/-- F20 -/
theorem test_empty_byte_02 :
    after (at_ [0x02, 0x12, 0x34]) (fun t => (t.status, t.pc, t.ic)) =
      some (.faulted .unknownOpcode 0xC000 0x02 1, 0xC000, 0) := by decide

/-- F21 -/
theorem test_empty_byte_FF :
    after (at_ [0xFF, 0x12, 0x34]) (fun t => (t.status, t.pc, t.ic)) =
      some (.faulted .unknownOpcode 0xC000 0xFF 1, 0xC000, 0) := by decide

/-- R190: a Faulted state has no step. -/
theorem test_faulted_has_no_step :
    nextOf (step { at_ [0xEA] with status := .faulted .unsupported 0xC000 0x00 1 }) = none := by decide

/-! ## The bus (section 2.7) -/

/-- The bus of the default launch state. -/
def bus : Bus := State.reset.bus

theorem test_bus_M1 :
    (((bus.write 0x0000 0xFF).write 0x0001 0x37).write 0x0000 0x00).read 0 0x0001 = 0x37 ∧
      (((bus.write 0x0000 0xFF).write 0x0001 0x37).write 0x0000 0x00).bank = { a := .basic, d := .io, e := .kernal } := by
  decide

theorem test_bus_M2 :
    ({ bus with port := 0x01, charRom := [(0, 0xC0)] } : Bus).read 0 0xD000 = 0xC0 ∧
      (({ bus with port := 0x01, charRom := [(0, 0xC0)] } : Bus).write 0xD000 0x5A).read 0 0xD000 = 0xC0 ∧
      ((({ bus with port := 0x01, charRom := [(0, 0xC0)] } : Bus).write 0xD000 0x5A).write 0x0001 0x00).read 0 0xD000 =
        0x5A := by decide

theorem test_bus_M3 :
    (({ bus with port := 0x05 } : Bus).write 0xD011 0x9B).read 0 0xD011 = 0x1B ∧
      (({ bus with port := 0x05 } : Bus).write 0xD011 0x9B).rlatch = 0x100 := by decide

theorem test_bus_M4 :
    (({ bus with port := 0x05, rlatch := 0x100 } : Bus).write 0xD012 0x34).rlatch = 0x134 ∧
      vidReg (({ bus with port := 0x05, rlatch := 0x100 } : Bus).write 0xD012 0x34) 0x12 = 0x00 := by decide

theorem test_bus_M5 : (bus.write 0xD060 0x05).read 0 0xD020 = 0x05 := by decide

theorem test_bus_M6 : (bus.write 0xD019 0xFF).read 0 0xD019 = 0x00 := by decide

theorem test_bus_M7 : (bus.write 0xD438 0x0F).read 0 0xD418 = 0x0F := by decide

theorem test_bus_M8 : (bus.write 0xDBE8 0xFF).read 0 0xDBE8 = 0xFF ∧ (bus.write 0xDBE8 0xFF).ram.read 0xDBE8 = 0xFF := by
  decide

theorem test_bus_M9 : ((bus.write 0xDC02 0x0F).write 0xDC00 0xFF).read 0 0xDC00 = 0x0F := by decide

theorem test_bus_M10 :
    ((({ bus with tc1 := bus.tc1.store 8 0x01 } : Bus).write 0xDC0F 0x80).write 0xDC08 0x12).read 0 0xDC08 = 0x01 ∧
      alarmReg ((({ bus with tc1 := bus.tc1.store 8 0x01 } : Bus).write 0xDC0F 0x80).write 0xDC08 0x12).tc1 0 = 0x12 := by
  decide

theorem test_bus_M11 : ((bus.write 0xDC0F 0x00).write 0xDC08 0x12).read 0 0xDC08 = 0x12 := by decide

theorem test_bus_M12 : ({ bus with tc1 := bus.tc1.store 0 0x0F } : Bus).read 0 0xDC10 = 0x0F := by decide

theorem test_bus_M13 : (bus.write 0xDE00 0x77).read 0 0xDE00 = 0x00 ∧ (bus.write 0xDE00 0x77).ram.read 0xDE00 = 0x00 := by
  decide

theorem test_bus_M14 :
    (({ bus with kernalRom := [(0, 0x4C)] } : Bus).write 0xE000 0x77).read 0 0xE000 = 0x4C ∧
      (({ bus with kernalRom := [(0, 0x4C)] } : Bus).write 0xE000 0x77).ram.read 0xE000 = 0x77 := by decide

/-! ## Power-on (section 2.8) -/

theorem test_reset_RS1 :
    (State.reset.pc, State.reset.sp, State.reset.p, State.reset.ic, State.reset.bus.ddr, State.reset.bus.port) =
      (0xC000, 0xFF, 0x00, 0, 0x2F, 0x27) ∧ State.reset.bus.bank = { a := .basic, d := .io, e := .kernal } ∧
      State.reset.status = .running := by decide

/-- The launch of RS2. -/
def rs2 : PowerOn :=
  { PowerOn.simulator with bus := { PowerOn.simulator.bus with kernalRom := [(0x1FFC, 0xE2), (0x1FFD, 0xFC)] } }

theorem test_reset_RS2 : (State.powerOn rs2).pc = 0xFCE2 := by decide

/-- R211: PORT must be masked by DDR and have bit 1 set; a store that lists a zero is refused. -/
theorem test_wf_launch : rs2.wf = true ∧
    PowerOn.wf { rs2 with bus := { rs2.bus with port := 0x37 } } = false ∧
    PowerOn.wf { rs2 with bus := { rs2.bus with port := 0x25 } } = false ∧
    PowerOn.wf { rs2 with bus := { rs2.bus with ram := [(5, 0x00)] } } = false := by decide

theorem test_wf_store : Store.wf 16 [(3, (0x01 : Byte)), (2, 0x01)] = false ∧
    Store.wf 16 [(16, (0x01 : Byte))] = false ∧ Store.wf 16 [(0, (0x01 : Byte)), (15, 0x02)] = true := by decide

theorem test_launch_then_step : after (State.reset.withFetchWord 16 0x05A9) (fun t => (t.a, t.pc)) = some (0x05, 0xC002) := by
  decide

theorem test_run_ends : (runUntil 0xC002 5 (at_ [0xA2, 0x05])).map (fun t => (t.x, t.endedAt 0xC002)) = some (0x05, true) := by
  decide

/-! ## Witnesses: the hypotheses of the statements can be met, at the boundaries of their ranges -/

theorem witness_EncodeOfDecode : decode [0x6C, 0xFF, 0xC1, 0xEA] = some (.jmpInd 0xC1FF, [0xEA]) := by decide

theorem witness_StepRunsTheDecodedInstruction :
    let s := at_ [0x20, 0x00, 0xC1]
    s.status = .running ∧
      decode [s.read .opcode s.pc, s.read .operand1 (s.pc + 1), s.read .operand2 (s.pc + 2)] =
        some (.jsr 0xC100, []) := by decide

theorem witness_StepRuns_short_instruction_at_the_top :
    let s := code allRam 0xFFFF [0xEA]
    s.status = .running ∧
      (decode [s.read .opcode s.pc, s.read .operand1 (s.pc + 1), s.read .operand2 (s.pc + 2)]).map Prod.fst =
        some .nop := by decide

theorem witness_IllegalOpcodesAreFatal :
    (at_ [0x02]).status = .running ∧ (at_ [0x02]).read .opcode (at_ [0x02]).pc ∈ illegalOpcodes ∧
      (at_ [0xFF]).status = .running ∧ (at_ [0xFF]).read .opcode (at_ [0xFF]).pc ∈ illegalOpcodes := by decide

theorem witness_AFaultLeavesEverythingElse :
    (∃ t, step (at_ [0x00]) = .next t ∧ t.hasFaulted = true) ∧ (∃ t, step (at_ [0x02]) = .next t ∧ t.hasFaulted = true) ∧
      { at_ [] with status := .faulted .unsupported 0xC000 0x00 1 }.status = .faulted .unsupported 0xC000 0x00 1 :=
  ⟨nextWith _ (by decide), nextWith _ (by decide), rfl⟩

/-- Each cause of a fault, at each value of S it names, and the values of S beside them. -/
theorem witness_FaultsHappenExactlyAtTheirCauses :
    (∀ e ∈ ([(.brk, 0x80, .unsupported), (.rti, 0x80, .unsupported), (.pha, 0x00, .stackOverflow),
        (.php, 0x00, .stackOverflow), (.jsr 0xC100, 0x00, .stackOverflow), (.jsr 0xC100, 0x01, .stackOverflow),
        (.pla, 0xFF, .stackUnderflow), (.plp, 0xFF, .stackUnderflow), (.rts, 0xFE, .stackUnderflow),
        (.rts, 0xFF, .stackUnderflow)] : List (Instr × Byte × FaultKind)),
      State.reset.status = .running ∧
        (nextOf (exec e.1 { State.reset with sp := e.2.1 })).map (fun t => t.status) =
          some (.faulted e.2.2 0xC000 (opcodeOf e.1) 1)) ∧
    (∀ e ∈ ([(.pha, 0x01), (.php, 0x01), (.jsr 0xC100, 0x02), (.pla, 0xFE), (.plp, 0xFE), (.rts, 0xFD), (.nop, 0x00)] :
        List (Instr × Byte)),
      (nextOf (exec e.1 { State.reset with sp := e.2 })).map (fun t => t.status) = some .running) := by decide

theorem witness_TheInstructionCounterCountsCompletedSteps :
    (∃ t, step (at_ [0xEA]) = .next t ∧ (t.status == .running) = true) ∧
      (∃ t, step (at_ [0x00]) = .next t ∧ (t.status != .running) = true) :=
  ⟨nextWith (fun t => t.status == .running) (by decide), nextWith (fun t => t.status != .running) (by decide)⟩

theorem witness_PowerOnState : rs2.bus.port.getLsbD 1 = true ∧ rs2.bus.kernalRom.read 0x1FFD = 0xFC := by decide

theorem witness_RomImagesMustHaveTheirSizes :
    (∃ q, PowerOn.simulator.withRoms (List.replicate 4096 1) (List.replicate 8192 2) (List.replicate 8192 3) = some q) ∧
      PowerOn.simulator.withRoms [] [] [] = none := by
  constructor
  · have h : ∀ (n : Nat) (v : Byte), Store.loadRom n (List.replicate n v) = some (Store.ofValuesFrom 0 (List.replicate n v)) :=
      fun n v => if_pos List.length_replicate
    unfold PowerOn.withRoms
    rw [h, h, h]
    exact ⟨_, rfl⟩
  · decide

theorem witness_StepKeepsTheMemoriesCanonical :
    (at_ [0x8D, 0x00, 0xA0]).wf = true ∧ ∃ t, step (at_ [0x8D, 0x00, 0xA0]) = .next t ∧ (t.bus.ram.read 0xC000 == 0x8D) = true :=
  ⟨by decide, nextWith (fun t => t.bus.ram.read 0xC000 == 0x8D) (by decide)⟩

theorem witness_EqualCellsMakeEqualStores :
    Store.wf 65536 [(0, (0x01 : Byte)), (65535, 0xFF)] = true ∧
      (∀ a, Store.read [(0, (0x01 : Byte)), (65535, 0xFF)] a = Store.read [(0, (0x01 : Byte)), (65535, 0xFF)] a) :=
  ⟨by decide, fun _ => rfl⟩

theorem witness_StepKeepsWhatNothingWrites :
    (vidReg (at_ [0x8D, 0x11, 0xD0]).bus 0x11).getLsbD 7 = false ∧
      ∃ t, step { at_ [0x8D, 0x11, 0xD0] with a := 0xFF } = .next t ∧ (vidReg t.bus 0x11 == 0x7F) = true :=
  ⟨by decide, nextWith (fun t => vidReg t.bus 0x11 == 0x7F) (by decide)⟩

theorem witness_OnlyAPortWriteChangesTheBank : (0x0000 : Word) ≠ 0x0001 ∧ (0x0002 : Word) ≠ 0x0001 := by decide

theorem witness_DirectRamReadsAndWrites : bus.wf = true ∧
    (([0x0002, 0x9FFF, 0xC000, 0xCFFF] : List Word).all fun addr =>
      decide (2 ≤ addr.toNat ∧ addr.toNat ≤ 0x9FFF ∨ 0xC000 ≤ addr.toNat ∧ addr.toNat ≤ 0xCFFF)) = true := by decide

theorem witness_AWriteTouchesOnlyItsCell :
    (0xD000 : Word) ≠ 0x0001 ∧ readCell bus.bank 0xD001 ≠ writeCell bus.bank 0xD000 ∧
      writeCell bus.bank 0xA000 = .ram 0xA000 ∧ (0xA001 : Word) ≠ 0xA000 ∧
      writeCell bus.bank 0xDBE8 = .ram 0xDBE8 ∧ (0xDBE7 : Word) ≠ 0xDBE8 := by decide +kernel

/-- Both ends of each window, each way a bank state shows RAM there (modes 0, 1, 2, 4, 5, 6), and I/O banked in. -/
theorem witness_WritesUnderRomGoToRam : bus.wf = true ∧
    (([0xA000, 0xBFFF] : List Word).all fun addr => decide (0xA000 ≤ addr.toNat ∧ addr.toNat ≤ 0xBFFF)) = true ∧
    (([0xD000, 0xDFFF] : List Word).all fun addr => decide (0xD000 ≤ addr.toNat ∧ addr.toNat ≤ 0xDFFF)) = true ∧
    (([0xE000, 0xFFFF] : List Word).all fun addr => decide (0xE000 ≤ addr.toNat)) = true ∧
    { bus with port := 0x03 }.bank.d ≠ .io ∧ allRam.bus.bank.d ≠ .io ∧ bus.bank.d = .io ∧
    (([0x00, 0x01, 0x02, 0x04, 0x05, 0x06] : List Byte).all fun q =>
      decide ((Bus.bank { bus.write 0xA000 0x55 with port := q }).a = .ram)) = true ∧
    (([0x00, 0x04] : List Byte).all fun q =>
      decide ((Bus.bank { bus.write 0xD000 0x55 with port := q }).d = .ram)) = true ∧
    (([0x00, 0x01, 0x04, 0x05] : List Byte).all fun q =>
      decide ((Bus.bank { bus.write 0xE000 0x55 with port := q }).e = .ram)) = true ∧
    (0xDBE7 : Word).toNat < 0xDBE8 ∧ 0xDBFF < (0xDC00 : Word).toNat := by decide

theorem witness_ProcessorPortAccesses : (0 : Nat) ≤ 1 ∧ (1 : Nat) ≤ 1 := by decide

theorem witness_WindowReads :
    (([0xA000, 0xBFFF] : List Word).all fun addr => decide (0xA000 ≤ addr.toNat ∧ addr.toNat ≤ 0xBFFF)) = true ∧
      (([0xE000, 0xFFFF] : List Word).all fun addr => decide (0xE000 ≤ addr.toNat)) = true ∧
      (([0xD000, 0xDFFF] : List Word).all fun addr => decide (0xD000 ≤ addr.toNat ∧ addr.toNat ≤ 0xDFFF)) = true ∧
      allRam.bus.bank.d = .ram ∧ { bus with port := 0x03 }.bank.d = .char ∧ bus.bank.d = .io ∧ bus.bank.a = .basic ∧
      bus.bank.e = .kernal := by decide

theorem witness_IoSubDecode :
    (([0xD000, 0xD3FF] : List Word).all fun addr => decide (0xD000 ≤ addr.toNat ∧ addr.toNat ≤ 0xD3FF)) = true ∧
      (([0xD400, 0xD7FF] : List Word).all fun addr => decide (0xD400 ≤ addr.toNat ∧ addr.toNat ≤ 0xD7FF)) = true ∧
      (([0xD800, 0xDBE7] : List Word).all fun addr => decide (0xD800 ≤ addr.toNat ∧ addr.toNat ≤ 0xDBE7)) = true ∧
      (([0xDBE8, 0xDBFF] : List Word).all fun addr => decide (0xDBE8 ≤ addr.toNat ∧ addr.toNat ≤ 0xDBFF)) = true ∧
      (([0xDC00, 0xDCFF] : List Word).all fun addr => decide (0xDC00 ≤ addr.toNat ∧ addr.toNat ≤ 0xDCFF)) = true ∧
      (([0xDD00, 0xDDFF] : List Word).all fun addr => decide (0xDD00 ≤ addr.toNat ∧ addr.toNat ≤ 0xDDFF)) = true ∧
      (([0xDE00, 0xDFFF] : List Word).all fun addr => decide (0xDE00 ≤ addr.toNat ∧ addr.toNat ≤ 0xDFFF)) = true := by decide

/-- The cells at the two ends of every range of the sub-decode. -/
theorem test_io_cells :
    (([0xD000, 0xD3FF, 0xD400, 0xD7FF, 0xD800, 0xDBE7, 0xDBE8, 0xDBFF, 0xDC00, 0xDCFF, 0xDD00, 0xDDFF, 0xDE00, 0xDFFF] :
      List Word).map ioCell) =
      [.vid 0x00, .vid 0x3F, .snd 0x00, .snd 0x1F, .color 0, .color 999, .ram 0xDBE8, .ram 0xDBFF, .tc1 0x0, .tc1 0xF,
        .tc2 0x0, .tc2 0xF, .expansion, .expansion] := by decide +kernel

theorem witness_VideoRegisterRules :
    bus.bank.d = .io ∧
      (([0xD000, 0xD3FF] : List Word).all fun addr => decide (0xD000 ≤ addr.toNat ∧ addr.toNat ≤ 0xD3FF)) = true ∧
    (0x3F : BitVec 6).toNat ≠ 0x12 ∧ (0x12 : BitVec 6).toNat = 0x12 ∧ (0x11 : BitVec 6).toNat = 0x11 ∧
      (∀ o ∈ ([0x19, 0x1E, 0x1F] : List (BitVec 6)), o.toNat = 0x19 ∨ o.toNat = 0x1E ∨ o.toNat = 0x1F) ∧
      (∀ o ∈ ([0x00, 0x10, 0x13, 0x3F] : List (BitVec 6)), o.toNat ∉ [0x11, 0x12, 0x19, 0x1E, 0x1F]) ∧
      (0x00 : BitVec 6) ≠ 0x3F := by decide

theorem witness_SoundAndExpansionPages : bus.bank.d = .io ∧
    (([0xD400, 0xD7FF] : List Word).all fun addr => decide (0xD400 ≤ addr.toNat ∧ addr.toNat ≤ 0xD7FF)) = true ∧
    (([0xDE00, 0xDFFF] : List Word).all fun addr => decide (0xDE00 ≤ addr.toNat ∧ addr.toNat ≤ 0xDFFF)) = true ∧
    (0x01 : BitVec 5) ≠ 0x1F := by decide

theorem witness_ColourCells : bus.wf = true ∧ bus.bank.d = .io ∧
    (([0xD800, 0xDBE7] : List Word).all fun addr => decide (0xD800 ≤ addr.toNat ∧ addr.toNat ≤ 0xDBE7)) = true ∧
    (([0xDBE8, 0xDBFF] : List Word).all fun addr => decide (0xDBE8 ≤ addr.toNat ∧ addr.toNat ≤ 0xDBFF)) = true ∧
    (1 : Nat) ≠ (0xD800 : Word).toNat - 0xD800 := by decide

theorem witness_TimerChipRules : bus.bank.d = .io ∧
    (([0xDC00, 0xDCFF] : List Word).all fun addr => decide (0xDC00 ≤ addr.toNat ∧ addr.toNat ≤ 0xDCFF)) = true ∧
    (([0xDD00, 0xDDFF] : List Word).all fun addr => decide (0xDD00 ≤ addr.toNat ∧ addr.toNat ≤ 0xDDFF)) = true ∧
    (∀ r ∈ ([0x0, 0x1] : List (BitVec 4)), r.toNat ≤ 1) ∧
    (∀ r ∈ ([0x8, 0xB] : List (BitVec 4)),
      8 ≤ r.toNat ∧ r.toNat ≤ 11 ∧ ((TimerChip.zero.store 0x0F 0x80).read 0x0F).getLsbD 7 = true) ∧
    (∀ r ∈ ([0x2, 0x7, 0x8, 0xB, 0xC, 0xF] : List (BitVec 4)),
      2 ≤ r.toNat ∧ ¬(8 ≤ r.toNat ∧ r.toNat ≤ 11 ∧ (TimerChip.zero.read 0x0F).getLsbD 7 = true)) ∧
    (0x0 : BitVec 4) ≠ 0xF := by decide

theorem witness_ZeroPageAddresses : Instr.ldaZp 0xFF ∈ zpInstrs 0xFF ++ zpxInstrs 0xFF ++ zpyInstrs 0xFF ∧
    Instr.ldaZpx 0xFF ∈ zpInstrs 0xFF ++ zpxInstrs 0xFF ++ zpyInstrs 0xFF ∧
    Instr.stxZpy 0xFF ∈ zpInstrs 0xFF ++ zpxInstrs 0xFF ++ zpyInstrs 0xFF := by decide

theorem witness_IndexedAbsoluteAddresses :
    Instr.staAbsx 0xFFFF ∈ absxInstrs 0xFFFF ++ absyInstrs 0xFFFF ∧
      Instr.ldxAbsy 0xFFFF ∈ absxInstrs 0xFFFF ++ absyInstrs 0xFFFF := by decide

theorem witness_ZeroPagePointerAddresses :
    Instr.staIndx 0xFF ∈ indxInstrs 0xFF ++ indyInstrs 0xFF ∧ Instr.cmpIndy 0xFF ∈ indxInstrs 0xFF ++ indyInstrs 0xFF := by
  decide

/-- How many forms each list of value forms has, as the opcode table gives the instruction. -/
theorem witness_value_forms :
    (ldaForms State.reset 0x10 0xC100).length = 8 ∧ (ldxForms State.reset 0x10 0xC100).length = 5 ∧
      (ldyForms State.reset 0x10 0xC100).length = 5 ∧ (adcForms State.reset 0x10 0xC100).length = 8 ∧
      (sbcForms State.reset 0x10 0xC100).length = 8 ∧ (cmpForms State.reset 0x10 0xC100).length = 8 ∧
      (cpxForms State.reset 0x10 0xC100).length = 3 ∧ (cpyForms State.reset 0x10 0xC100).length = 3 ∧
      (andForms State.reset 0x10 0xC100).length = 8 ∧ (oraForms State.reset 0x10 0xC100).length = 8 ∧
      (eorForms State.reset 0x10 0xC100).length = 8 ∧ (bitForms State.reset 0x10 0xC100).length = 2 :=
  ⟨rfl, rfl, rfl, rfl, rfl, rfl, rfl, rfl, rfl, rfl, rfl, rfl⟩

/-- How many forms each list of memory forms has, as the opcode table gives the instruction. -/
theorem witness_memory_forms :
    (staForms 0x10 0xC100).length = 7 ∧ (stxForms 0x10 0xC100).length = 3 ∧ (styForms 0x10 0xC100).length = 3 ∧
      (incForms 0x10 0xC100).length = 4 ∧ (decForms 0x10 0xC100).length = 4 ∧ (aslForms 0x10 0xC100).length = 4 ∧
      (lsrForms 0x10 0xC100).length = 4 ∧ (rolForms 0x10 0xC100).length = 4 ∧ (rorForms 0x10 0xC100).length = 4 ∧
      (storingForms 0x10 0xC100).length = 37 := ⟨rfl, rfl, rfl, rfl, rfl, rfl, rfl, rfl, rfl, rfl⟩

theorem witness_BranchesTestTheirFlag :
    (Instr.bpl 0x80, Machine.Flag.n, false) ∈ ([(.bpl 0x80, .n, false), (.bmi 0x80, .n, true)] : List (Instr × Machine.Flag × Bool)) ∧
      getFlag 0x7F .n = false ∧ getFlag 0x80 .n = true := by decide

theorem witness_FlagInstructionsWriteOneFlag :
    (Instr.clc, Machine.Flag.c, false) ∈ ([(.clc, .c, false), (.sec, .c, true)] : List (Instr × Machine.Flag × Bool)) := by decide

theorem witness_JsrPushesTheReturnAddress :
    2 ≤ (0x02 : Byte).toNat ∧ 2 ≤ State.reset.sp.toNat ∧ (0x00 : Byte).toNat ≤ 1 ∧ (0x01 : Byte).toNat ≤ 1 := by decide

theorem witness_RtsPullsTheReturnAddress :
    (0x00 : Byte).toNat ≤ 0xFD ∧ (0xFD : Byte).toNat ≤ 0xFD ∧ 0xFE ≤ (0xFE : Byte).toNat ∧ 0xFE ≤ (0xFF : Byte).toNat := by
  decide

theorem witness_ReturnFollowsTheCall : ({ State.reset with sp := 0x02 } : State).wf = true ∧ 2 ≤ (0x02 : Byte).toNat ∧
    State.reset.wf = true ∧ 2 ≤ State.reset.sp.toNat := by decide

theorem witness_PushInstructions : State.reset.sp ≠ 0 ∧ (0x01 : Byte) ≠ 0 ∧ State.reset.bus.wf = true ∧
    ({ State.reset with sp := 0x00 } : State).sp = 0 := by decide

theorem witness_PullInstructions : (0x00 : Byte) ≠ 0xFF ∧ (0xFE : Byte) ≠ 0xFF ∧ State.reset.sp = 0xFF := by decide

theorem witness_PullUndoesPush : State.reset.wf = true ∧ ∃ t, State.reset.push 0x42 = some t :=
  ⟨State.reset_wf, _, State.push_eq_some.mpr ⟨by decide, rfl⟩⟩

theorem witness_OnlyListedInstructionsWriteARegister :
    writesA (.ldxImm 0x05) = false ∧ writesX (.ldaImm 0x05) = false ∧ writesY (.ldaImm 0x05) = false ∧
      writesS (.ldaImm 0x05) = false ∧ (∃ t, exec (.ldaImm 0x05) State.reset = .next t) ∧
      ∃ t, exec (.ldxImm 0x05) State.reset = .next t := ⟨rfl, rfl, rfl, rfl, answers _ _, answers _ _⟩

theorem witness_OnlyListedInstructionsWriteAFlag :
    writesC (.ldaImm 0x05) = false ∧ writesV (.ldaImm 0x05) = false ∧ writesNZ .sec = false ∧
      Instr.sec ∉ [.cli, .sei, .plp] ∧ Instr.sec ∉ [.cld, .sed, .plp] ∧ Instr.sec ≠ .plp ∧
      (∃ t, exec (.ldaImm 0x05) State.reset = .next t) ∧ ∃ t, exec .sec State.reset = .next t :=
  ⟨rfl, rfl, rfl, by decide, by decide, by decide, answers _ _, answers _ _⟩

theorem witness_NonStoringInstructionsLeaveMemory :
    writesMemory (.cmpImm 0x05) = false ∧ writesMemory (.bne 0xFE) = false ∧
      (∃ t, exec (.cmpImm 0x05) State.reset = .next t) ∧ ∃ t, exec (.bne 0xFE) State.reset = .next t :=
  ⟨rfl, rfl, answers _ _, answers _ _⟩

/-- A store to RAM under BASIC, a store to a colour cell, a store to the port; an address beside each. -/
theorem witness_StoringInstructionsFrame :
    ({ instr := .staAbs 0xA000, len := 3, operand := .abs 0xA000 } : MemoryForm) ∈ storingForms 0x01 0xA000 ∧
      (∃ t, exec (.staAbs 0xA000) State.reset = .next t) ∧
      (State.reset.fetched 3).ea (.abs 0xA000) = 0xA000 ∧
      writeCell State.reset.bus.bank 0xA000 = .ram 0xA000 ∧ (0xA001 : Word) ≠ 0xA000 ∧
      (∃ t, exec (.staAbs 0xD800) State.reset = .next t) ∧ (0xD800 : Word) ≠ 0x0001 ∧
      readCell State.reset.bus.bank 0xD801 ≠ writeCell State.reset.bus.bank 0xD800 ∧
      ({ instr := .staZp 0x01, len := 2, operand := .zp 0x01 } : MemoryForm) ∈ storingForms 0x01 0xA000 ∧
      (∃ t, exec (.staZp 0x01) State.reset = .next t) ∧ (State.reset.fetched 2).ea (.zp 0x01) = 0x0001 := by
  refine ⟨?_, answers _ _, rfl, by decide +kernel, by decide, answers _ _, by decide, by decide +kernel, ?_, answers _ _, by decide⟩ <;>
    simp [storingForms, staForms]

theorem witness_StackInstructionsFrame :
    (∃ t, exec .pha State.reset = .next t) ∧ (∃ t, exec .php State.reset = .next t) ∧
      (∃ t, exec (.jsr 0xC100) State.reset = .next t) ∧ (0x01FD : Word) ≠ stackByte State.reset.sp ∧
      (0x01FD : Word) ≠ stackByte (State.reset.sp - 1) :=
  ⟨answers _ _, answers _ _, answers _ _, by decide, by decide⟩

theorem witness_DecimalInterruptAndBreakFlagsAreInert :
    Instr.adcImm 0x01 ≠ .php ∧ (0x3C : Byte) &&& 0xC3 = State.reset.p &&& 0xC3 ∧ (0x3C : Byte) ≠ State.reset.p := by decide

theorem witness_AStopRequestKeepsTheWholeState : (∀ b ∈ [false, false], b = false) ∧
    (∃ t, step (at_ [0xE8]) = .next t ∧ (t.x == 0x01) = true) ∧
    ({ at_ [0xE8] with status := .faulted .unsupported 0xC000 0x00 1 } : State).hasFaulted = true :=
  ⟨by decide, nextWith (fun t => t.x == 0x01) (by decide), by decide⟩

/-- A stop before the second instruction: the state after the first. -/
theorem test_host_stop : (hostRun [false, true, false] (at_ [0xE8, 0xE8])).debugView.x = 0x01 ∧
    (hostRun [false, false] (at_ [0xE8, 0xE8])).debugView.pc = 0xC002 := by decide

end Sys2Proof.Tests
end

section
/-! SUPPORT. Bus accesses range by range: what a bus read and a bus write do where RAM or the I/O sub-decode answers, and
the rules of the I/O register files (20_memory.md). -/

namespace Sys2Proof.Machine

open Sys2Proof.Claims

variable {b : Bus} {addr : Word}

/-! ### RAM -/

theorem Bus.read_of_ram (d : Byte) (h : readCell b.bank addr = .ram addr.toNat) :
    b.read d addr = b.ram.read addr.toNat := by
  rw [Bus.read, h]; rfl

theorem Bus.write_of_ram (v : Byte) (h : writeCell b.bank addr = .ram addr.toNat) :
    b.write addr v = { b with ram := b.ram.write addr.toNat v } := by
  rw [Bus.write, h]; rfl

theorem Bus.ram_read_write_self (hb : b.wf = true) (n : Nat) (v : Byte) : (b.ram.write n v).read n = v :=
  Store.read_write_self n v ((Bus.wf_iff b).mp hb).1

/-- Where a write goes to RAM, a read under any port value that shows RAM there gives the value written. -/
theorem Bus.read_write_ram (hb : b.wf = true) (d v q : Byte) (hw : writeCell b.bank addr = .ram addr.toNat)
    (hr : readCell (Bus.bank { b.write addr v with port := q }) addr = .ram addr.toNat) :
    Bus.read { b.write addr v with port := q } d addr = v := by
  rw [Bus.read_of_ram d hr, Bus.write_of_ram v hw]
  exact Bus.ram_read_write_self hb _ v

/-- The value in every cell but `RAM[n]` is apart from `RAM[n]`. -/
theorem Bus.readAt_ram_write_other (d u : Byte) {n : Nat} {cell : Backing} (h : cell ≠ .ram n) :
    Bus.readAt { b with ram := b.ram.write n u } d cell = b.readAt d cell := by
  cases cell with
  | ram a => exact Store.read_write_other b.ram u fun ha => h (congrArg Backing.ram ha)
  | _ => rfl

/-- The processor port hides `RAM[0]` and `RAM[1]` from every read (R57). -/
theorem readCell_ne_ram_of_le_one (bank : Bank) (addr : Word) {n : Nat} (hn : n ≤ 1) : readCell bank addr ≠ .ram n := by
  intro h
  have ha : addr.toNat = 0 ∨ addr.toNat = 1 := by have := readCell_ram_eq h; omega
  simp only [readCell] at h
  obtain ha | ha := ha
  · rw [if_pos ha] at h; cases h
  · rw [if_neg (by omega), if_pos ha] at h; cases h

/-! ### The I/O window -/

theorem Bus.read_io (d : Byte) (hd : b.bank.d = .io) (h : 0xD000 ≤ addr.toNat ∧ addr.toNat ≤ 0xDFFF) {cell : Backing}
    (hc : ioCell addr = cell) : b.read d addr = b.readAt d cell := by
  rw [Bus.read, readCell_d _ h, hd, ← hc]

theorem Bus.write_io (v : Byte) (hd : b.bank.d = .io) (h : 0xD000 ≤ addr.toNat ∧ addr.toNat ≤ 0xDFFF) {cell : Backing}
    (hc : ioCell addr = cell) : b.write addr v = b.writeAt cell v := by
  rw [Bus.write, writeCell_io _ h hd, hc]

theorem setWidth_eq_ofNat_mod (w : Word) (k : Nat) : w.setWidth k = BitVec.ofNat k (w.toNat % 2 ^ k) :=
  BitVec.eq_of_toNat_eq (by simp)

theorem ioCell_eq_vid (h : 0xD000 ≤ addr.toNat ∧ addr.toNat ≤ 0xD3FF) :
    ioCell addr = .vid (BitVec.ofNat 6 (addr.toNat % 64)) := by
  simp only [ioCell]
  rw [if_pos (by omega)]
  exact congrArg Backing.vid (setWidth_eq_ofNat_mod addr 6)

theorem ioCell_eq_snd (h : 0xD400 ≤ addr.toNat ∧ addr.toNat ≤ 0xD7FF) :
    ioCell addr = .snd (BitVec.ofNat 5 (addr.toNat % 32)) := by
  simp only [ioCell]
  rw [if_neg (by omega), if_pos (by omega)]
  exact congrArg Backing.snd (setWidth_eq_ofNat_mod addr 5)

theorem ioCell_eq_color (h : 0xD800 ≤ addr.toNat ∧ addr.toNat ≤ 0xDBE7) :
    ioCell addr = .color (addr.toNat - 0xD800) := by
  simp only [ioCell]
  rw [if_neg (by omega), if_neg (by omega), if_pos (by omega), if_pos (by omega)]

theorem ioCell_eq_ram (h : 0xDBE8 ≤ addr.toNat ∧ addr.toNat ≤ 0xDBFF) : ioCell addr = .ram addr.toNat := by
  simp only [ioCell]
  rw [if_neg (by omega), if_neg (by omega), if_pos (by omega), if_neg (by omega)]

theorem ioCell_eq_tc1 (h : 0xDC00 ≤ addr.toNat ∧ addr.toNat ≤ 0xDCFF) :
    ioCell addr = .tc1 (BitVec.ofNat 4 (addr.toNat % 16)) := by
  simp only [ioCell]
  rw [if_neg (by omega), if_neg (by omega), if_neg (by omega), if_pos (by omega)]
  exact congrArg Backing.tc1 (setWidth_eq_ofNat_mod addr 4)

theorem ioCell_eq_tc2 (h : 0xDD00 ≤ addr.toNat ∧ addr.toNat ≤ 0xDDFF) :
    ioCell addr = .tc2 (BitVec.ofNat 4 (addr.toNat % 16)) := by
  simp only [ioCell]
  rw [if_neg (by omega), if_neg (by omega), if_neg (by omega), if_neg (by omega), if_pos (by omega)]
  exact congrArg Backing.tc2 (setWidth_eq_ofNat_mod addr 4)

theorem ioCell_eq_expansion (h : 0xDE00 ≤ addr.toNat ∧ addr.toNat ≤ 0xDFFF) : ioCell addr = .expansion := by
  simp only [ioCell]
  rw [if_neg (by omega), if_neg (by omega), if_neg (by omega), if_neg (by omega), if_neg (by omega)]

/-- Only $DBE8-$DBFF of the I/O window is RAM (R77). -/
theorem ioCell_eq_ram_range {n : Nat} (ha : 0xD000 ≤ addr.toNat ∧ addr.toNat ≤ 0xDFFF) (h : ioCell addr = .ram n) :
    0xDBE8 ≤ addr.toNat ∧ addr.toNat ≤ 0xDBFF := by
  simp only [ioCell] at h
  split at h
  · cases h
  split at h
  · cases h
  split at h
  · split at h
    · cases h
    · omega
  split at h
  · cases h
  split at h <;> cases h

/-- A write changes RAM only at a RAM cell. -/
theorem Bus.writeAt_ram_field (v : Byte) {cell : Backing} (h : ∀ n, cell ≠ .ram n) : (b.writeAt cell v).ram = b.ram := by
  cases cell with
  | ram n => exact absurd rfl (h n)
  | vid o => exact (Bus.vidWrite_stores b o v).1
  | _ => rfl

/-- No write in the I/O window changes the bank state (R60). -/
theorem Bus.write_bank_io (v : Byte) (h : 0xD000 ≤ addr.toNat ∧ addr.toNat ≤ 0xDFFF) :
    (b.write addr v).bank = b.bank := by
  refine Bus.write_bank b v ?_
  rintro rfl
  exact absurd h.1 (by decide)

/-- The high four bits of a colour cell read as 0 (R75). -/
theorem Bus.read_color_toNat (d : Byte) (hd : b.bank.d = .io) (h : 0xD800 ≤ addr.toNat ∧ addr.toNat ≤ 0xDBE7) :
    (b.read d addr).toNat = (b.color.read (addr.toNat - 0xD800)).toNat := by
  rw [Bus.read_io d hd (by omega) (ioCell_eq_color h)]
  exact BitVec.toNat_setWidth_of_le (by decide)

theorem Bus.write_color (v : Byte) (hd : b.bank.d = .io) (h : 0xD800 ≤ addr.toNat ∧ addr.toNat ≤ 0xDBE7) :
    b.write addr v = { b with color := b.color.write (addr.toNat - 0xD800) (v.setWidth 4) } :=
  Bus.write_io v hd (by omega) (ioCell_eq_color h)

/-! ### Video registers -/

/-- The 9-bit latch as a number: bit 8 over the low byte (R42). -/
theorem ofBool_append_toNat (c : Bool) (x : Byte) : (BitVec.ofBool c ++ x).toNat = 256 * c.toNat + x.toNat := by
  rw [BitVec.toNat_append, ← Nat.shiftLeft_add_eq_or_of_lt x.isLt, Nat.shiftLeft_eq, BitVec.toNat_ofBool]
  omega

theorem getLsbD_toNat {w : Nat} (x : BitVec w) (i : Nat) : (x.getLsbD i).toNat = x.toNat / 2 ^ i % 2 := by
  rw [BitVec.getLsbD, Nat.toNat_testBit]

/-- A video write changes at most the register it names, and the latch (R70 to R73). -/
theorem Bus.vidWrite_vid (b : Bus) (o : BitVec 6) (v : Byte) :
    (b.vidWrite o v).vid = b.vid ∨ ∃ u, (b.vidWrite o v).vid = b.vid.set o.toNat u o.isLt := by
  unfold Bus.vidWrite
  split
  · exact .inr ⟨_, rfl⟩
  split
  · exact .inl rfl
  split
  · exact .inl rfl
  · exact .inr ⟨_, rfl⟩

theorem vidReg_vidWrite_other (b : Bus) {c o : BitVec 6} (v : Byte) (h : c ≠ o) :
    vidReg (b.vidWrite o v) c = vidReg b c := by
  have hne : o.toNat ≠ c.toNat := fun h' => h (BitVec.eq_of_toNat_eq h'.symm)
  unfold vidReg
  obtain e | ⟨u, e⟩ := Bus.vidWrite_vid b o v
  · simp only [e]
  · simp only [e, Vector.getElem_set_ne _ _ hne]

theorem Bus.vidWrite_frame (b : Bus) (o : BitVec 6) (v : Byte) :
    b.vidWrite o v = { b with vid := (b.vidWrite o v).vid, rlatch := (b.vidWrite o v).rlatch } := by
  unfold Bus.vidWrite
  split
  · rfl
  split
  · rfl
  split <;> rfl

theorem Bus.vidRead_of_ne (b : Bus) (d : Byte) {o : BitVec 6} (h : o.toNat ≠ 0x12) : b.vidRead d o = vidReg b o :=
  if_neg h

/-- R70. -/
theorem Bus.vidWrite_0x11 (b : Bus) (v : Byte) {o : BitVec 6} (h : o.toNat = 0x11) :
    b.vidWrite o v =
      { b with
        vid := b.vid.set o.toNat (v &&& 0x7F) o.isLt
        rlatch := BitVec.ofBool (v.getLsbD 7) ++ b.rlatch.setWidth 8 } :=
  if_pos h

/-- R71. -/
theorem Bus.vidWrite_0x12 (b : Bus) (v : Byte) {o : BitVec 6} (h : o.toNat = 0x12) :
    b.vidWrite o v = { b with rlatch := BitVec.ofBool (b.rlatch.getLsbD 8) ++ v } := by
  rw [Bus.vidWrite, if_neg (by omega), if_pos h]

/-- R72. -/
theorem Bus.vidWrite_readOnly (b : Bus) (v : Byte) {o : BitVec 6}
    (h : o.toNat = 0x19 ∨ o.toNat = 0x1E ∨ o.toNat = 0x1F) : b.vidWrite o v = b := by
  rw [Bus.vidWrite, if_neg (by omega), if_neg (by omega), if_pos h]

/-- R73. -/
theorem Bus.vidWrite_plain (b : Bus) (v : Byte) {o : BitVec 6} (h : o.toNat ∉ [0x11, 0x12, 0x19, 0x1E, 0x1F]) :
    b.vidWrite o v = { b with vid := b.vid.set o.toNat v o.isLt } := by
  simp only [List.mem_cons, List.not_mem_nil, or_false, not_or] at h
  rw [Bus.vidWrite, if_neg (by omega), if_neg (by omega), if_neg (by omega)]

/-! ### Timer chips -/

/-- R79. -/
theorem TimerChip.write_port (t : TimerChip) {r : BitVec 4} (v : Byte) (h : r.toNat ≤ 1) :
    t.write r v = t.store r (v &&& t.read (r + 2)) :=
  if_pos h

/-- When a write of register `r` is redirected to the alarm shadow: a time-of-day register, and bit 7 of register 0x0F
set (R80). -/
def TimerChip.ToAlarm (t : TimerChip) (r : BitVec 4) : Prop :=
  8 ≤ r.toNat ∧ r.toNat ≤ 11 ∧ (t.read 0x0F).getLsbD 7 = true

theorem TimerChip.write_toAlarm {t : TimerChip} {r : BitVec 4} (v : Byte) (h : t.ToAlarm r) :
    t.write r v = { t with alarm := t.alarm.set (r.setWidth 2).toNat v (r.setWidth 2).isLt } := by
  obtain ⟨h8, h11, hbit⟩ := h
  rw [TimerChip.write, if_neg (by omega), if_pos ⟨h8, h11⟩, if_pos hbit]

/-- R80 and R81. -/
theorem TimerChip.write_live {t : TimerChip} {r : BitVec 4} (v : Byte) (h2 : 2 ≤ r.toNat) (h : ¬t.ToAlarm r) :
    t.write r v = t.store r v := by
  rw [TimerChip.write, if_neg (by omega)]
  split
  next ht => rw [if_neg fun hbit => h ⟨ht.1, ht.2, hbit⟩]
  next => rfl

/-- Every write but a redirected one keeps the shadows (R79, R81). -/
theorem TimerChip.write_alarm {t : TimerChip} {r : BitVec 4} (v : Byte) (h : ¬t.ToAlarm r) :
    (t.write r v).alarm = t.alarm := by
  obtain h1 | h2 : r.toNat ≤ 1 ∨ 2 ≤ r.toNat := by omega
  · rw [TimerChip.write_port t v h1]; rfl
  · rw [TimerChip.write_live v h2 h]; rfl

/-- A redirected write changes the shadow eight registers below, and no other (R80). -/
theorem TimerChip.alarmReg_write {t : TimerChip} {r : BitVec 4} (v : Byte) (h : t.ToAlarm r) (k : BitVec 2) :
    alarmReg (t.write r v) k = if k.toNat + 8 = r.toNat then v else alarmReg t k := by
  have hslot : (r.setWidth 2).toNat = r.toNat % 4 := BitVec.toNat_setWidth ..
  have hiff : (r.setWidth 2).toNat = k.toNat ↔ k.toNat + 8 = r.toNat := by
    obtain ⟨h8, h11, -⟩ := h
    have := k.isLt
    omega
  rw [TimerChip.write_toAlarm v h]
  simp only [alarmReg, Vector.getElem_set, hiff]

end Sys2Proof.Machine
end

section
/-! PROOFS. The obligations about memory (20_memory.md). -/

namespace Sys2Proof.Proofs

open Sys2Proof.Machine Sys2Proof.Claims

/-- Settles O16, by the eight values of PORT[2:0]. -/
theorem bankOfThePort : Obligations.BankOfThePort := by
  unfold Obligations.BankOfThePort
  decide

/-- Settles O17: the port answers $00 and $01, so no read reaches `RAM[0]` or `RAM[1]`. -/
theorem processorPortAccesses : Obligations.ProcessorPortAccesses := by
  intro b d v
  have hport : b.write 0x0001 v = { b with port := v &&& b.ddr } := rfl
  refine ⟨rfl, rfl, ?_, rfl, rfl, hport, ?_⟩
  · intro n u addr hn
    exact Bus.readAt_ram_write_other d u (readCell_ne_ram_of_le_one b.bank addr hn)
  · rw [hport]; rfl

/-- Settles O18. -/
theorem onlyAPortWriteChangesTheBank : Obligations.OnlyAPortWriteChangesTheBank := fun b _ v h =>
  ⟨Bus.write_port b v h, Bus.write_bank b v h⟩

/-- Settles O19: in these ranges RAM answers both accesses under every bank state. -/
theorem directRamReadsAndWrites : Obligations.DirectRamReadsAndWrites := by
  intro b d addr v hb h
  have hw : writeCell b.bank addr = .ram addr.toNat := writeCell_ram _ (by omega) (by omega)
  refine ⟨Bus.read_of_ram d (readCell_direct _ h), Bus.write_of_ram v hw, ?_, ?_⟩
  · exact Bus.read_write_ram hb d v (b.write addr v).port hw (readCell_direct _ h)
  · intro n hn
    rw [Bus.write_of_ram v hw]
    exact Store.read_write_other b.ram v hn

/-- Settles O21: where I/O is not banked in the write goes to RAM; where it is, only $DBE8-$DBFF is RAM. -/
theorem writesUnderRomGoToRam : Obligations.WritesUnderRomGoToRam := by
  intro b d addr v q hb
  refine ⟨fun h => ?_, fun ⟨hl, hu, hd⟩ => ?_⟩
  · have hw : writeCell b.bank addr = .ram addr.toNat := by
      refine writeCell_ram _ (by omega) ?_
      rcases h with h | h | ⟨-, -, hd⟩
      · exact .inl (by omega)
      · exact .inr (.inl (by omega))
      · exact .inr (.inr hd)
    refine ⟨Bus.write_of_ram v hw, ?_, fun hn ha => ?_, fun hn hd => ?_, fun hn he => ?_⟩
    · rw [Bus.write_of_ram v hw]
      exact Bus.ram_read_write_self hb _ v
    · refine Bus.read_write_ram hb d v q hw ?_
      rw [readCell_a _ (by omega), if_neg (by rw [ha]; decide)]
    · refine Bus.read_write_ram hb d v q hw ?_
      rw [readCell_d _ hn, hd]
    · refine Bus.read_write_ram hb d v q hw ?_
      rw [readCell_e _ hn, if_neg (by rw [he]; decide)]
  · have hio := Bus.write_io v hd ⟨hl, hu⟩ rfl
    refine ⟨hio, fun hout => ?_⟩
    rw [hio]
    refine Bus.writeAt_ram_field v fun n hn => ?_
    have := ioCell_eq_ram_range ⟨hl, hu⟩ hn
    omega

/-- Settles O22: each window's cell, read. -/
theorem windowReads : Obligations.WindowReads := by
  intro b d addr
  refine ⟨fun h => ?_, fun h => ?_, fun h => ⟨fun hd => ?_, fun hd => ?_, fun hd => Bus.read_io d hd h rfl⟩⟩
  · rw [Bus.read, readCell_a _ h]
    split <;> rfl
  · rw [Bus.read, readCell_e _ h]
    split <;> rfl
  · exact Bus.read_of_ram d (by rw [readCell_d _ h, hd])
  · rw [Bus.read, readCell_d _ h, hd]; rfl

/-- Settles O24: the sub-decode gives the offset, and each offset has its own write rule. -/
theorem videoRegisterRules : Obligations.VideoRegisterRules := by
  refine ⟨fun b d addr v hd h => ?_, fun b o v d => ?_⟩
  · have hc := ioCell_eq_vid h
    exact ⟨Bus.read_io d hd (by omega) hc, Bus.write_io v hd (by omega) hc⟩
  · refine ⟨Bus.vidRead_of_ne b d, fun h => if_pos h, fun h => ?_, fun h => ?_, Bus.vidWrite_readOnly b v, fun h => ?_,
      fun c hc => vidReg_vidWrite_other b v hc, Bus.vidWrite_frame b o v⟩
    · rw [Bus.vidRead_of_ne _ d (by omega), Bus.vidWrite_0x11 b v h]
      constructor
      · have := v.isLt
        simp only [ofBool_append_toNat, getLsbD_toNat, BitVec.toNat_setWidth]
        omega
      · simp only [vidReg, Vector.getElem_set_self, BitVec.toNat_and]
        exact Nat.and_two_pow_sub_one_eq_mod v.toNat 7
    · rw [Bus.vidWrite_0x12 b v h]
      refine ⟨rfl, ?_⟩
      have := b.rlatch.isLt
      simp only [ofBool_append_toNat, getLsbD_toNat]
      omega
    · rw [Bus.vidWrite_plain b v h]
      exact ⟨Vector.getElem_set_self _, rfl⟩

/-- Settles O25: the sub-decode gives the sound register, or no cell. -/
theorem soundAndExpansionPages : Obligations.SoundAndExpansionPages := by
  intro b d addr v hd
  refine ⟨fun h => ?_, fun h => ?_⟩
  · have hc := ioCell_eq_snd h
    rw [Bus.write_io v hd (by omega) hc]
    refine ⟨Bus.read_io d hd (by omega) hc, rfl, Vector.getElem_set_self _, fun c hne => ?_⟩
    exact Vector.getElem_set_ne (BitVec.isLt _) c.isLt fun h' => hne (BitVec.eq_of_toNat_eq h'.symm)
  · have hc := ioCell_eq_expansion h
    exact ⟨Bus.read_io d hd (by omega) hc, Bus.write_io v hd (by omega) hc⟩

/-- Settles O26: a colour cell holds four bits; the rest of the page is RAM for both accesses. -/
theorem colourCells : Obligations.ColourCells := by
  intro b d addr v hb hd
  have hbank : 0xD800 ≤ addr.toNat ∧ addr.toNat ≤ 0xDBFF → (b.write addr v).bank = b.bank := fun h =>
    Bus.write_bank_io v (by omega)
  refine ⟨fun h => ?_, fun h => ?_⟩
  · have hwrite := Bus.write_color v hd h
    obtain ⟨-, -, -, -, hcolor⟩ := (Bus.wf_iff b).mp hb
    have hd' : (b.write addr v).bank.d = .io := by rw [hbank (by omega), hd]
    refine ⟨Bus.read_color_toNat d hd h, by rw [hwrite], ?_, fun c hc => ?_⟩
    · rw [Bus.read_color_toNat d hd' h, hwrite, Store.read_write_self _ _ hcolor]
      exact BitVec.toNat_setWidth ..
    · rw [hwrite]
      exact Store.read_write_other b.color _ hc
  · have hcell : writeCell b.bank addr = .ram addr.toNat := by rw [writeCell_io _ (by omega) hd, ioCell_eq_ram h]
    have hread : readCell b.bank addr = .ram addr.toNat := by rw [readCell_d _ (by omega), hd, ioCell_eq_ram h]
    refine ⟨Bus.read_of_ram d hread, Bus.write_of_ram v hcell, ?_⟩
    refine Bus.read_write_ram hb d v (b.write addr v).port hcell ?_
    exact (congrArg (readCell · addr) (hbank (by omega))).trans hread

/-- Settles O27: the sub-decode gives the chip and register; each kind of register has its own write rule. -/
theorem timerChipRules : Obligations.TimerChipRules := by
  refine ⟨fun b d addr v hd => ⟨fun h => ?_, fun h => ?_⟩, fun t r v => ?_⟩
  · have hc := ioCell_eq_tc1 h
    exact ⟨Bus.read_io d hd (by omega) hc, Bus.write_io v hd (by omega) hc⟩
  · have hc := ioCell_eq_tc2 h
    exact ⟨Bus.read_io d hd (by omega) hc, Bus.write_io v hd (by omega) hc⟩
  · refine ⟨fun h => ?_, fun h2 h => ?_, fun h => ?_, TimerChip.write_alarm v, TimerChip.alarmReg_write v,
      fun c hc => TimerChip.read_write_other t v hc⟩
    · have hddr : BitVec.ofNat 4 (r.toNat + 2) = r + 2 := BitVec.eq_of_toNat_eq (by simp)
      rw [TimerChip.write_port t v h, TimerChip.read_store, if_pos rfl, hddr]
    · rw [TimerChip.write_live v h2 h, TimerChip.read_store, if_pos rfl]
    · rw [TimerChip.write_toAlarm v h]

end Sys2Proof.Proofs
end

section
/-! SUPPORT. Addresses as numbers: the bytes of a word, the pointers, the effective addresses (40_addressing.md). -/

namespace Sys2Proof.Machine

open Sys2Proof.Claims

theorem lowByte_eq_ofNat (w : Word) : lowByte w = BitVec.ofNat 8 (w.toNat % 256) :=
  BitVec.eq_of_toNat_eq (by simp [lowByte_toNat])

theorem highByte_eq_ofNat (w : Word) : highByte w = BitVec.ofNat 8 (w.toNat / 256) := by
  have := w.isLt
  apply BitVec.eq_of_toNat_eq
  rw [highByte_toNat, BitVec.toNat_ofNat]
  omega

@[simp] theorem zext16_toNat (v : Byte) : (zext16 v).toNat = v.toNat := BitVec.toNat_setWidth_of_le (by decide)

theorem zext16_eq_ofNat (v : Byte) : zext16 v = BitVec.ofNat 16 v.toNat :=
  BitVec.eq_of_toNat_eq (by rw [BitVec.toNat_ofNat, zext16_toNat]; omega)

/-- The high byte of a zero-page pointer is one further: the two cases differ at $FF alone (R116, R117). -/
theorem zpPointerHigh_eq_ofNat (wrap : Bool) (z : Byte) :
    zpPointerHigh wrap z = BitVec.ofNat 16 (if wrap then (z.toNat + 1) % 256 else z.toNat + 1) := by
  unfold zpPointerHigh
  split
  next h => subst h; cases wrap <;> rfl
  next h =>
    have hz : z.toNat ≠ 255 := fun hz => h (BitVec.eq_of_toNat_eq hz)
    have hmod : (z.toNat + 1) % 256 = z.toNat + 1 := by have := z.isLt; omega
    rw [hmod, ite_self, BitVec.ofNat_add, zext16_eq_ofNat]
    rfl

/-- Clearing the low byte leaves the start of the page. -/
theorem and_0xFF00_toNat (w : Word) : (w &&& 0xFF00).toNat = 256 * (w.toNat / 256) := by
  have hshift : w &&& (0xFF00 : Word) = w >>> 8 <<< 8 := (BitVec.shiftLeft_ushiftRight (x := w) (n := 8)).symm
  have := w.isLt
  rw [hshift, BitVec.toNat_shiftLeft, BitVec.toNat_ushiftRight, Nat.shiftRight_eq_div_pow, Nat.shiftLeft_eq]
  omega

/-- The high byte of the pointer of `JMP (ind)` is one further: the two cases differ at the end of a page alone (R115). -/
theorem jmpPointerHigh_eq_ofNat (wrap : Bool) (ptr : Word) :
    jmpPointerHigh wrap ptr = BitVec.ofNat 16
      (if wrap then 256 * (ptr.toNat / 256) + (ptr.toNat % 256 + 1) % 256 else ptr.toNat + 1) := by
  have hnext : ptr + 1 = BitVec.ofNat 16 (ptr.toNat + 1) := BitVec.eq_of_toNat_eq (by simp)
  have hiff : lowByte ptr = 0xFF ↔ ptr.toNat % 256 = 255 := by
    rw [← BitVec.toNat_inj, lowByte_toNat]; rfl
  unfold jmpPointerHigh
  split
  next h =>
    cases wrap
    case false => exact hnext
    case true =>
      apply BitVec.eq_of_toNat_eq
      have := ptr.isLt
      have := hiff.mp h
      simp only [if_true, and_0xFF00_toNat, BitVec.toNat_ofNat]
      omega
  next h =>
    have hsame : 256 * (ptr.toNat / 256) + (ptr.toNat % 256 + 1) % 256 = ptr.toNat + 1 := by
      have := mt hiff.mpr h
      omega
    rw [hsame, ite_self, hnext]

theorem State.readPointer_toNat (s : State) (lo hi : Word) :
    (s.readPointer lo hi).toNat = 256 * (s.read .pointerHigh hi).toNat + (s.read .pointerLow lo).toNat :=
  wordOf_toNat _ _

theorem State.zpPointer_toNat (s : State) (z : Byte) :
    (s.zpPointer z).toNat =
      256 * (s.read .pointerHigh
          (BitVec.ofNat 16 (if s.params.zpPtrWrap then (z.toNat + 1) % 256 else z.toNat + 1))).toNat +
        (s.read .pointerLow (BitVec.ofNat 16 z.toNat)).toNat := by
  rw [State.zpPointer, State.readPointer_toNat, zpPointerHigh_eq_ofNat, zext16_eq_ofNat]

theorem State.indirectTarget_toNat (s : State) (hhll : Word) :
    (s.indirectTarget hhll).toNat =
      256 * (s.read .pointerHigh (BitVec.ofNat 16 (if s.params.jmpIndPageWrap
          then 256 * (hhll.toNat / 256) + (hhll.toNat % 256 + 1) % 256 else hhll.toNat + 1))).toNat +
        (s.read .pointerLow hhll).toNat := by
  rw [State.indirectTarget, State.readPointer_toNat, jmpPointerHigh_eq_ofNat]

theorem State.ea_zp_toNat (s : State) (nn : Byte) : (s.ea (.zp nn)).toNat = nn.toNat := zext16_toNat nn

theorem State.ea_zpx_toNat (s : State) (nn : Byte) : (s.ea (.zpx nn)).toNat = (nn.toNat + s.x.toNat) % 256 :=
  (zext16_toNat _).trans (BitVec.toNat_add nn s.x)

theorem State.ea_zpy_toNat (s : State) (nn : Byte) : (s.ea (.zpy nn)).toNat = (nn.toNat + s.y.toNat) % 256 :=
  (zext16_toNat _).trans (BitVec.toNat_add nn s.y)

/-- An index is added to a word modulo 65536 (R112, R113, R117). -/
theorem add_zext16_toNat (w : Word) (v : Byte) : (w + zext16 v).toNat = (w.toNat + v.toNat) % 65536 := by
  rw [BitVec.toNat_add, zext16_toNat]

/-- Every `MemRead` is a bus read, under the draw of its access (R10). -/
theorem State.readsTheBus (s : State) : ReadsTheBus s := fun k addr => ⟨_, s.read_eq k addr⟩

end Sys2Proof.Machine
end

section
/-! PROOFS. The obligations about addressing modes (40_addressing.md) and the jumps that use them. -/

namespace Sys2Proof.Proofs

open Sys2Proof.Machine Sys2Proof.Claims

/-- Settles O28: the index is added in eight bits, and zero extension keeps the sum in page 0. Every listed
instruction encodes to its opcode byte and `nn`. -/
theorem zeroPageAddresses : Obligations.ZeroPageAddresses := fun s nn =>
  ⟨s.ea_zp_toNat nn, s.ea_zpx_toNat nn, s.ea_zpy_toNat nn, List.map_eq_replicate_iff.mp rfl⟩

/-- Settles O29. -/
theorem indexedAbsoluteAddresses : Obligations.IndexedAbsoluteAddresses := by
  intro s hhll
  refine ⟨rfl, add_zext16_toNat hhll s.x, add_zext16_toNat hhll s.y, ?_⟩
  rw [← lowByte_eq_ofNat, ← highByte_eq_ofNat]
  exact List.map_eq_replicate_iff.mp rfl

/-- Settles O30: both modes read the word a zero-page pointer holds, at the indexed or at the plain operand. -/
theorem zeroPagePointerAddresses : Obligations.ZeroPagePointerAddresses := by
  intro s nn high pointer
  have hpointer : ∀ z : Byte, (s.zpPointer z).toNat = pointer z.toNat := s.zpPointer_toNat
  refine ⟨s.readsTheBus, ?_, ?_, List.map_eq_replicate_iff.mp rfl⟩
  · rw [← BitVec.toNat_add]
    exact hpointer (nn + s.x)
  · rw [← hpointer nn]
    exact add_zext16_toNat (s.zpPointer nn) s.y

/-- Settles O44: the target of `JMP (ind)` is the word at its pointer. -/
theorem jumpsSetPc : Obligations.JumpsSetPc := fun s hhll =>
  ⟨(s.fetched 3).readsTheBus, rfl, (s.fetched 3).indirectTarget hhll, rfl, (s.fetched 3).indirectTarget_toNat hhll⟩

end Sys2Proof.Proofs
end

section
/-! SUPPORT. SetNZ in the vocabulary of the statements, when the value of a form is the `Load` of its operand, and what
the forms of the loads and stores do (41_load_store_transfer.md). -/

namespace Sys2Proof.Machine

open Sys2Proof.Claims

/-- N of a byte: its top bit says that it is 128 or more. -/
theorem getLsbD_seven_iff (v : Byte) : v.getLsbD 7 = true ↔ 128 ≤ v.toNat := by
  have h : v.getLsbD 7 = decide (128 ≤ v.toNat) := BitVec.msb_eq_decide v
  rw [h, decide_eq_true_iff]

/-- Z of a byte. -/
theorem beq_zero_iff_toNat (v : Byte) : (v == 0) = true ↔ v.toNat = 0 :=
  beq_iff_eq.trans BitVec.toNat_inj.symm

/-- SetNZ writes N and Z as the value says, and no other bit (R132). -/
theorem setNZ_nzOf (p v : Byte) : NZOf v p (setNZ p v) := by
  refine ⟨?z, ?n, ?flags, setNZ_bit5 p v⟩
  case z =>
    rw [getFlag_setNZ]
    exact beq_zero_iff_toNat v
  case n =>
    rw [getFlag_setNZ]
    exact getLsbD_seven_iff v
  case flags =>
    intro f hf
    simp only [List.mem_cons, List.not_mem_nil, or_false, not_or] at hf
    obtain ⟨hn, hz⟩ := hf
    rw [getFlag_setNZ, if_neg hn, if_neg hz]

/-- `Load(mode)` of a form's operand: the byte `nn` of an immediate, or the load of the operand in memory (R119). -/
def operandValue (s : State) (nn : Byte) (f : ValueForm) : Byte := f.operand.elim nn (s.fetched f.len).load

/-- A form whose value is the `Load` of its operand is loaded: a load in memory is a bus read. -/
theorem isLoaded_of_value_eq {s : State} {nn : Byte} {f : ValueForm} (h : f.value = operandValue s nn f) :
    f.IsLoaded s nn := by
  obtain ⟨i, len, operand, v⟩ := f
  cases operand with
  | none => exact h
  | some m => exact ⟨_, h⟩

/-- When a list of forms holds the `Load`s of its operands, each of its forms is loaded. -/
theorem isLoaded_of_mem {s : State} {nn : Byte} {fs : List ValueForm}
    (h : fs.map ValueForm.value = fs.map (operandValue s nn)) {f : ValueForm} (hf : f ∈ fs) : f.IsLoaded s nn :=
  isLoaded_of_value_eq (List.map_inj_left.mp h f hf)

section
variable (s : State) (nn : Byte) (hhll : Word)

/-- Every form of LDA ends in `A <- v; SetNZ(v)` of its value (R120). -/
theorem exec_ldaForms :
    ∀ f ∈ ldaForms s nn hhll, exec f.instr s = .next ((s.fetched f.len).setA f.value) := List.map_inj_left.mp rfl

/-- Every form of LDX ends in `X <- v; SetNZ(v)` of its value (R121). -/
theorem exec_ldxForms :
    ∀ f ∈ ldxForms s nn hhll, exec f.instr s = .next ((s.fetched f.len).setX f.value) := List.map_inj_left.mp rfl

/-- Every form of LDY ends in `Y <- v; SetNZ(v)` of its value (R122). -/
theorem exec_ldyForms :
    ∀ f ∈ ldyForms s nn hhll, exec f.instr s = .next ((s.fetched f.len).setY f.value) := List.map_inj_left.mp rfl

/-- Every form of STA ends in `Store(mode, A)` (R123). -/
theorem exec_staForms :
    ∀ f ∈ staForms nn hhll, exec f.instr s = .next ((s.fetched f.len).store f.operand s.a) := List.map_inj_left.mp rfl

/-- Every form of STX ends in `Store(mode, X)` (R124). -/
theorem exec_stxForms :
    ∀ f ∈ stxForms nn hhll, exec f.instr s = .next ((s.fetched f.len).store f.operand s.x) := List.map_inj_left.mp rfl

/-- Every form of STY ends in `Store(mode, Y)` (R125). -/
theorem exec_styForms :
    ∀ f ∈ styForms nn hhll, exec f.instr s = .next ((s.fetched f.len).store f.operand s.y) := List.map_inj_left.mp rfl

end

end Sys2Proof.Machine
end

section
/-! PROOFS. The obligations about loads, stores and register transfers (41_load_store_transfer.md). -/

namespace Sys2Proof.Proofs

open Sys2Proof.Machine Sys2Proof.Claims

/-- Settles O31: every form loads its operand and hands it to SetNZ and its register. -/
theorem loadsSetTheirRegister : Obligations.LoadsSetTheirRegister := by
  intro s nn hhll
  refine ⟨fun f hf => ⟨?_, setNZ s.p f.value, setNZ_nzOf s.p f.value, exec_ldaForms s nn hhll f hf⟩,
    fun f hf => ⟨?_, setNZ s.p f.value, setNZ_nzOf s.p f.value, exec_ldxForms s nn hhll f hf⟩,
    fun f hf => ⟨?_, setNZ s.p f.value, setNZ_nzOf s.p f.value, exec_ldyForms s nn hhll f hf⟩⟩
  all_goals exact isLoaded_of_mem rfl hf

/-- Settles O33: a transfer is SetNZ of the source, but for TXS. -/
theorem transfersCopyTheirRegister : Obligations.TransfersCopyTheirRegister := fun s =>
  ⟨⟨_, setNZ_nzOf s.p s.a, rfl⟩, ⟨_, setNZ_nzOf s.p s.a, rfl⟩, ⟨_, setNZ_nzOf s.p s.x, rfl⟩,
    ⟨_, setNZ_nzOf s.p s.y, rfl⟩, ⟨_, setNZ_nzOf s.p s.sp, rfl⟩, rfl⟩

/-- Settles O32: the next state of `Store(mode, v)`, written out, for each of the three registers. -/
theorem storesWriteTheirRegister : Obligations.StoresWriteTheirRegister := fun s nn hhll =>
  ⟨exec_staForms s nn hhll, exec_stxForms s nn hhll, exec_styForms s nn hhll⟩

end Sys2Proof.Proofs
end

section
/-! SUPPORT. Add, the comparisons, BIT, INC and DEC in the vocabulary of the statements, and what the forms of these
instructions do (42_arith_logic.md). -/

namespace Sys2Proof.Machine

open Sys2Proof.Claims

theorem keepsFlags_refl (fs : List Flag) (p : Byte) : KeepsFlags fs p p := ⟨fun _ _ => rfl, rfl⟩

/-- Writing a flag that may change keeps the others. -/
theorem keepsFlags_setFlag {fs : List Flag} {p q : Byte} {f : Flag} (on : Bool) (hf : f ∈ fs)
    (h : KeepsFlags fs p q) : KeepsFlags fs p (setFlag q f on) := by
  obtain ⟨hflags, hbit5⟩ := h
  refine ⟨fun g hg => ?_, (setFlag_bit5 q f on).trans hbit5⟩
  have hne : g ≠ f := fun he => hg (he ▸ hf)
  rw [getFlag_setFlag, if_neg hne]
  exact hflags g hg

/-- Widening the list of flags that may change keeps the others. -/
theorem keepsFlags_mono {fs gs : List Flag} {p q : Byte} (hsub : fs ⊆ gs) (h : KeepsFlags fs p q) :
    KeepsFlags gs p q := by
  obtain ⟨hflags, hbit5⟩ := h
  exact ⟨fun g hg => hflags g fun hf => hg (hsub hf), hbit5⟩

section
variable (p r o m : Byte) (cin : Bool)

theorem addResult_toNat : (addResult r o cin).toNat = (r.toNat + o.toNat + cin.toNat) % 256 := BitVec.toNat_ofNat ..

/-- Bit 8 of the exact sum is the carry out, as the sum is below 512 (R133). -/
theorem addSum_testBit_eight : (addSum r o cin).testBit 8 = true ↔ 256 ≤ r.toNat + o.toNat + cin.toNat := by
  have := r.isLt
  have := o.isLt
  have := cin.toNat_le
  rw [Nat.testBit_eq_decide_div_mod_eq, decide_eq_true_iff, addSum]
  omega

/-- The sign bit of an exclusive or: the signs differ. -/
theorem xor_getLsbD_seven_iff : (r ^^^ o).getLsbD 7 = true ↔ ¬(128 ≤ r.toNat ↔ 128 ≤ o.toNat) := by
  rw [BitVec.getLsbD_xor, Bool.xor_iff_ne, ne_eq, Bool.eq_iff_iff, getLsbD_seven_iff, getLsbD_seven_iff]

/-- The sign test of the rule: both operands differ in sign from the result exactly when the signed sum does not fit
(R133, R134). -/
theorem addOverflow_iff : addOverflow r o cin = true ↔
    r.toInt + o.toInt + cin.toNat < -128 ∨ 127 < r.toInt + o.toInt + cin.toNat := by
  have hsigns : addOverflow r o cin = true ↔
      ¬(128 ≤ r.toNat ↔ 128 ≤ (addResult r o cin).toNat) ∧
        ¬(128 ≤ o.toNat ↔ 128 ≤ (addResult r o cin).toNat) := by
    rw [addOverflow, BitVec.getLsbD_and, Bool.and_eq_true, xor_getLsbD_seven_iff, xor_getLsbD_seven_iff]
  have := r.isLt
  have := o.isLt
  have := cin.toNat_le
  rw [hsigns, addResult_toNat, BitVec.toInt_eq_toNat_cond, BitVec.toInt_eq_toNat_cond]
  omega

theorem getFlag_addNZCV_c :
    getFlag (addNZCV p r o cin) .c = true ↔ 256 ≤ r.toNat + o.toNat + cin.toNat := by
  rw [getFlag_addNZCV, getFlag_addNZC]
  exact addSum_testBit_eight r o cin

theorem getFlag_addNZCV_v : getFlag (addNZCV p r o cin) .v = true ↔
    r.toInt + o.toInt + cin.toNat < -128 ∨ 127 < r.toInt + o.toInt + cin.toNat := by
  rw [getFlag_addNZCV]
  exact addOverflow_iff r o cin

theorem keepsFlags_addNZC : KeepsFlags [.n, .z, .c] p (addNZC p r o cin) :=
  keepsFlags_setFlag _ (by decide) (keepsFlags_setFlag _ (by decide)
    (keepsFlags_setFlag _ (by decide) (keepsFlags_refl _ p)))

/-- Z and N after `Add` describe the result, and every flag but N, V, Z and C is as before (R133). -/
theorem addNZCV_zn_keeps :
    (getFlag (addNZCV p r o cin) .z = true ↔ (addResult r o cin).toNat = 0) ∧
      (getFlag (addNZCV p r o cin) .n = true ↔ 128 ≤ (addResult r o cin).toNat) ∧
      KeepsFlags [.n, .v, .z, .c] p (addNZCV p r o cin) := by
  refine ⟨?z, ?n, ?keeps⟩
  case z =>
    rw [getFlag_addNZCV, getFlag_addNZC]
    exact beq_zero_iff_toNat _
  case n =>
    rw [getFlag_addNZCV, getFlag_addNZC]
    exact getLsbD_seven_iff _
  case keeps =>
    exact keepsFlags_setFlag _ (by decide) (keepsFlags_mono (by decide) (keepsFlags_addNZC p r o cin))

/-- The complement of a byte, unsigned. -/
theorem not_toNat : ((~~~m).toNat : Int) = 255 - m.toNat := by
  have := m.isLt
  rw [BitVec.toNat_not]
  omega

/-- The complement of a byte, signed: `-m - 1`. -/
theorem not_toInt : (~~~m).toInt = -m.toInt - 1 := by
  have := m.isLt
  rw [BitVec.toInt_eq_toNat_cond, BitVec.toInt_eq_toNat_cond, BitVec.toNat_not]
  omega

/-- Adding the complement subtracts, with a borrow when the carry-in is 0 (R135). -/
theorem addResult_not_toNat :
    ((addResult r (~~~m) cin).toNat : Int) = ((r.toNat : Int) - m.toNat - (1 - cin.toNat)) % 256 := by
  have := not_toNat m
  rw [addResult_toNat]
  omega

/-- C after adding the complement: no borrow (R135). -/
theorem getFlag_addNZCV_not_c :
    getFlag (addNZCV p r (~~~m) cin) .c = true ↔ m.toNat + 1 ≤ r.toNat + cin.toNat := by
  have := not_toNat m
  rw [getFlag_addNZCV_c]
  omega

/-- V after adding the complement: the signed difference does not fit (R135). -/
theorem getFlag_addNZCV_not_v : getFlag (addNZCV p r (~~~m) cin) .v = true ↔
    r.toInt - m.toInt - (1 - cin.toNat) < -128 ∨ 127 < r.toInt - m.toInt - (1 - cin.toNat) := by
  rw [getFlag_addNZCV_v, not_toInt]
  omega

/-- With the carry-in of a comparison no borrow is taken (R136). -/
theorem addResult_not_true_toNat : ((addResult r (~~~m) true).toNat : Int) = ((r.toNat : Int) - m.toNat) % 256 := by
  rw [addResult_not_toNat, Bool.toNat_true, Nat.cast_one, sub_self, sub_zero]

theorem getFlag_compareFlags_z : getFlag (compareFlags p r m) .z = true ↔ r = m := by
  have hz : getFlag (compareFlags p r m) .z = true ↔ (addResult r (~~~m) true).toNat = 0 := by
    rw [compareFlags, getFlag_addNZC]
    exact beq_zero_iff_toNat _
  have := addResult_not_true_toNat r m
  have := r.isLt
  have := m.isLt
  rw [hz, ← BitVec.toNat_inj]
  omega

theorem getFlag_compareFlags_c : getFlag (compareFlags p r m) .c = true ↔ m.toNat ≤ r.toNat := by
  have hc : getFlag (compareFlags p r m) .c = true ↔ 256 ≤ r.toNat + (~~~m).toNat + 1 := by
    rw [compareFlags, getFlag_addNZC]
    exact addSum_testBit_eight r (~~~m) true
  have := not_toNat m
  rw [hc]
  omega

theorem getFlag_compareFlags_n :
    getFlag (compareFlags p r m) .n = true ↔ 128 ≤ ((r.toNat : Int) - m.toNat) % 256 := by
  rw [compareFlags, getFlag_addNZC, ← addResult_not_true_toNat]
  exact (getLsbD_seven_iff _).trans Nat.ofNat_le_cast.symm

theorem keepsFlags_bitFlags (a : Byte) : KeepsFlags [.n, .v, .z] p (bitFlags p a m) :=
  keepsFlags_setFlag _ (by decide) (keepsFlags_setFlag _ (by decide)
    (keepsFlags_setFlag _ (by decide) (keepsFlags_refl _ p)))

/-- Z after BIT: no bit is set in both bytes (R142). -/
theorem getFlag_bitFlags_z (a : Byte) : getFlag (bitFlags p a m) .z = true ↔
    ∀ k, k < 8 → ¬(a.getLsbD k = true ∧ m.getLsbD k = true) := by
  have hz : getFlag (bitFlags p a m) .z = true ↔ a &&& m = 0#8 := by
    rw [getFlag_bitFlags]
    exact beq_iff_eq
  simp only [hz, BitVec.eq_of_getLsbD_eq_iff, BitVec.getLsbD_and, BitVec.getLsbD_zero, ← Bool.and_eq_true,
    Bool.not_eq_true]

/-- `increment` and `decrement` add 1 or 255 modulo 256 and end in SetNZ (R143, R144). -/
theorem increment_spec : (increment p m).value.toNat = (m.toNat + 1) % 256 ∧
    NZOf (increment p m).value p (increment p m).p := ⟨BitVec.toNat_add m 1, setNZ_nzOf p (m + 1)⟩

theorem decrement_spec : (decrement p m).value.toNat = (m.toNat + 255) % 256 ∧
    NZOf (decrement p m).value p (decrement p m).p := ⟨BitVec.toNat_add m 255, setNZ_nzOf p (m + 255)⟩

end

/-- `Load(mode)` in an instruction of `len` bytes is a bus read of the effective address (R119). -/
theorem loadsFromBus_load (s : State) (len : Nat) (m : MemOperand) :
    LoadsFromBus s len m ((s.fetched len).load m) := ⟨_, (s.fetched len).read_eq .data _⟩

section
variable (s : State) (nn : Byte) (hhll : Word)

/-- Every form of ADC ends in `Add(A, M, false)` of its value (R134). -/
theorem exec_adcForms :
    ∀ f ∈ adcForms s nn hhll, exec f.instr s = .next ((s.fetched f.len).adc f.value) := List.map_inj_left.mp rfl

/-- Every form of SBC ends in `Add(A, ~M, false)` of its value (R135). -/
theorem exec_sbcForms :
    ∀ f ∈ sbcForms s nn hhll, exec f.instr s = .next ((s.fetched f.len).sbc f.value) := List.map_inj_left.mp rfl

/-- Every form of CMP compares A with its value (R136). -/
theorem exec_cmpForms :
    ∀ f ∈ cmpForms s nn hhll, exec f.instr s = .next ((s.fetched f.len).cmp f.value) := List.map_inj_left.mp rfl

/-- Every form of CPX compares X with its value (R137). -/
theorem exec_cpxForms :
    ∀ f ∈ cpxForms s nn hhll, exec f.instr s = .next ((s.fetched f.len).cpx f.value) := List.map_inj_left.mp rfl

/-- Every form of CPY compares Y with its value (R138). -/
theorem exec_cpyForms :
    ∀ f ∈ cpyForms s nn hhll, exec f.instr s = .next ((s.fetched f.len).cpy f.value) := List.map_inj_left.mp rfl

/-- Every form of AND ends in `A <- A & M; SetNZ(A)` of its value (R139). -/
theorem exec_andForms :
    ∀ f ∈ andForms s nn hhll, exec f.instr s = .next ((s.fetched f.len).andA f.value) := List.map_inj_left.mp rfl

/-- Every form of ORA ends in `A <- A | M; SetNZ(A)` of its value (R140). -/
theorem exec_oraForms :
    ∀ f ∈ oraForms s nn hhll, exec f.instr s = .next ((s.fetched f.len).orA f.value) := List.map_inj_left.mp rfl

/-- Every form of EOR ends in `A <- A ^ M; SetNZ(A)` of its value (R141). -/
theorem exec_eorForms :
    ∀ f ∈ eorForms s nn hhll, exec f.instr s = .next ((s.fetched f.len).eorA f.value) := List.map_inj_left.mp rfl

/-- Both forms of BIT test their value against A (R142). -/
theorem exec_bitForms :
    ∀ f ∈ bitForms s nn hhll, exec f.instr s = .next ((s.fetched f.len).bitTest f.value) := List.map_inj_left.mp rfl

/-- Every form of INC is `Modify(mode, increment)` (R143). -/
theorem exec_incForms : ∀ f ∈ incForms nn hhll,
    exec f.instr s = .next ((s.fetched f.len).modify f.operand increment) := List.map_inj_left.mp rfl

/-- Every form of DEC is `Modify(mode, decrement)` (R144). -/
theorem exec_decForms : ∀ f ∈ decForms nn hhll,
    exec f.instr s = .next ((s.fetched f.len).modify f.operand decrement) := List.map_inj_left.mp rfl

end

end Sys2Proof.Machine
end

section
/-! PROOFS. The obligations about arithmetic, comparison, logic, increment and decrement (42_arith_logic.md). -/

namespace Sys2Proof.Proofs

open Sys2Proof.Machine Sys2Proof.Claims

/-- Settles O34: every form is `Add` of A, its value and C, and `Add`'s sign test is signed overflow. -/
theorem adcAddsWithCarry : Obligations.AdcAddsWithCarry := fun s nn hhll f hf =>
  ⟨isLoaded_of_mem rfl hf, _, _, exec_adcForms s nn hhll f hf, addResult_toNat s.a f.value (getFlag s.p .c),
    getFlag_addNZCV_c .., getFlag_addNZCV_v .., addNZCV_zn_keeps ..⟩

/-- Settles O35: SBC is `Add` of the complement, which is `255 - M` unsigned and `-M - 1` signed. -/
theorem sbcSubtractsWithBorrow : Obligations.SbcSubtractsWithBorrow := fun s nn hhll f hf =>
  ⟨isLoaded_of_mem rfl hf, _, _, exec_sbcForms s nn hhll f hf,
    addResult_not_toNat s.a f.value (getFlag s.p .c), getFlag_addNZCV_not_c .., getFlag_addNZCV_not_v ..,
    addNZCV_zn_keeps ..⟩

/-- Settles O36: the flags of the comparison, for each of the three registers. -/
theorem comparisonsOrderTheirOperands : Obligations.ComparisonsOrderTheirOperands := by
  intro s nn hhll compared
  have hflags (r : Byte) (f : ValueForm) (hloaded : f.IsLoaded s nn)
      (hexec : exec f.instr s = .next ((s.fetched f.len).compare r f.value)) : compared r f :=
    ⟨hloaded, _, hexec, getFlag_compareFlags_z .., getFlag_compareFlags_c .., getFlag_compareFlags_n ..,
      keepsFlags_addNZC ..⟩
  exact ⟨fun f hf => hflags s.a f (isLoaded_of_mem rfl hf) (exec_cmpForms s nn hhll f hf),
    fun f hf => hflags s.x f (isLoaded_of_mem rfl hf) (exec_cpxForms s nn hhll f hf),
    fun f hf => hflags s.y f (isLoaded_of_mem rfl hf) (exec_cpyForms s nn hhll f hf)⟩

/-- Settles O37: each operation acts on every bit, and SetNZ follows. -/
theorem logicIsBitwise : Obligations.LogicIsBitwise := fun s nn hhll =>
  ⟨fun f hf => ⟨isLoaded_of_mem rfl hf, _, _, exec_andForms s nn hhll f hf,
      fun _ _ => BitVec.getLsbD_and, setNZ_nzOf ..⟩,
    fun f hf => ⟨isLoaded_of_mem rfl hf, _, _, exec_oraForms s nn hhll f hf,
      fun _ _ => BitVec.getLsbD_or, setNZ_nzOf ..⟩,
    fun f hf => ⟨isLoaded_of_mem rfl hf, _, _, exec_eorForms s nn hhll f hf,
      fun _ _ => BitVec.getLsbD_xor, setNZ_nzOf ..⟩⟩

/-- Settles O38: BIT's flags, with N and V read off the operand. -/
theorem bitTestsWithoutChangingA : Obligations.BitTestsWithoutChangingA := fun s nn hhll f hf =>
  ⟨isLoaded_of_mem rfl hf, _, exec_bitForms s nn hhll f hf, getFlag_bitFlags_z .., getFlag_bitFlags ..,
    getFlag_bitFlags .., keepsFlags_bitFlags ..⟩

/-- Settles O39: `Modify` loads, steps and stores at one effective address. -/
theorem memoryIncrementAndDecrement : Obligations.MemoryIncrementAndDecrement := fun s nn hhll =>
  ⟨fun f hf => ⟨_, _, _, loadsFromBus_load s f.len f.operand, exec_incForms s nn hhll f hf, rfl,
      increment_spec s.p ((s.fetched f.len).load f.operand)⟩,
    fun f hf => ⟨_, _, _, loadsFromBus_load s f.len f.operand, exec_decForms s nn hhll f hf, rfl,
      decrement_spec s.p ((s.fetched f.len).load f.operand)⟩⟩

/-- Settles O40: each of the four is one increment or decrement of its register. -/
theorem indexIncrementAndDecrement : Obligations.IndexIncrementAndDecrement := fun s =>
  ⟨⟨_, _, rfl, increment_spec s.p s.x⟩, ⟨_, _, rfl, increment_spec s.p s.y⟩,
    ⟨_, _, rfl, decrement_spec s.p s.x⟩, ⟨_, _, rfl, decrement_spec s.p s.y⟩⟩

end Sys2Proof.Proofs
end

section
/-! SUPPORT. The shifts and rotates in the vocabulary of the statements, and what their memory forms do
(43_shift_rotate.md). -/

namespace Sys2Proof.Machine

open Sys2Proof.Claims

/-- P goes from `p` to `q` as a shift or rotate with result `r` and the bit `out` shifted out says (R151). -/
def ShiftFlags (p r q : Byte) (out : Nat) : Prop :=
  (getFlag q .c = true ↔ out = 1) ∧ (getFlag q .z = true ↔ r.toNat = 0) ∧ (getFlag q .n = true ↔ 128 ≤ r.toNat) ∧
    KeepsFlags [.n, .z, .c] p q

section
variable (p v : Byte)

/-- C takes the bit `k` shifted out, here read off the value by division; N and Z follow the result (R151). -/
theorem shifted_shiftFlags (r : Byte) (k : Nat) :
    ShiftFlags p r (shifted p (v.getLsbD k) r).p (v.toNat / 2 ^ k % 2) := by
  obtain ⟨hz, hn, -⟩ := setNZ_nzOf (setFlag p .c (v.getLsbD k)) r
  refine ⟨?c, hz, hn, ?keeps⟩
  case c =>
    rw [getFlag_shifted, ← getLsbD_toNat]
    exact Bool.toNat_eq_one.symm
  case keeps =>
    exact keepsFlags_setFlag _ (by decide) (keepsFlags_setFlag _ (by decide)
      (keepsFlags_setFlag _ (by decide) (keepsFlags_refl _ p)))

/-- The top bit of a byte is its quotient by 128. -/
theorem shifted_shiftFlags_top (r : Byte) : ShiftFlags p r (shifted p (v.getLsbD 7) r).p (v.toNat / 128) := by
  have htop : v.toNat / 2 ^ 7 % 2 = v.toNat / 128 := by
    have := v.isLt
    omega
  exact htop ▸ shifted_shiftFlags p v r 7

/-- The lowest bit of a byte is its remainder by 2. -/
theorem shifted_shiftFlags_low (r : Byte) : ShiftFlags p r (shifted p (v.getLsbD 0) r).p (v.toNat % 2) :=
  Nat.div_one v.toNat ▸ shifted_shiftFlags p v r 0

/-- The carry as the byte that a rotation lets enter. -/
theorem carryByte_toNat : ((BitVec.ofBool (getFlag p .c)).setWidth 8).toNat = carryOf p := by
  rw [BitVec.toNat_setWidth_of_le (by decide), BitVec.toNat_ofBool, carryOf]

/-- A left shift by one leaves bit 0 free, so the carry entering there is added (R151). -/
theorem rotateLeft_value_toNat : (rotateLeft p v).value.toNat = (2 * v.toNat + carryOf p) % 256 := by
  have hc : carryOf p < 2 ^ 1 := Bool.toNat_lt _
  calc (rotateLeft p v).value.toNat
    _ = v.toNat <<< 1 % 2 ^ 8 ||| carryOf p := by
      rw [← carryByte_toNat]
      exact BitVec.toNat_or ..
    _ = (v.toNat <<< 1 ||| carryOf p) % 2 ^ 8 := by
      rw [Nat.or_mod_two_pow, Nat.mod_eq_of_lt (a := carryOf p) (by omega)]
    _ = (2 * v.toNat + carryOf p) % 256 := by
      rw [← Nat.shiftLeft_add_eq_or_of_lt hc, Nat.shiftLeft_eq]
      omega

/-- A right shift by one leaves bit 7 free, so the carry entering there adds 128 (R151). -/
theorem rotateRight_value_toNat : (rotateRight p v).value.toNat = v.toNat / 2 + 128 * carryOf p := by
  have hv : v.toNat / 2 < 2 ^ 7 := by
    have := v.isLt
    omega
  have hc : carryOf p < 2 := Bool.toNat_lt _
  have hcarry : ((BitVec.ofBool (getFlag p .c)).setWidth 8 <<< 7).toNat = carryOf p <<< 7 := by
    rw [BitVec.toNat_shiftLeft, carryByte_toNat, Nat.shiftLeft_eq]
    omega
  calc (rotateRight p v).value.toNat
    _ = v.toNat >>> 1 ||| carryOf p <<< 7 := by
      rw [← hcarry]
      exact BitVec.toNat_or ..
    _ = carryOf p <<< 7 + v.toNat / 2 := by rw [Nat.shiftRight_one, Nat.or_comm, ← Nat.shiftLeft_add_eq_or_of_lt hv]
    _ = v.toNat / 2 + 128 * carryOf p := by
      rw [Nat.shiftLeft_eq]
      omega

/-- `ShiftLeft`: the value doubled modulo 256, the top bit out (R151). -/
theorem shiftLeft_spec : (shiftLeft p v).value.toNat = 2 * v.toNat % 256 ∧
    ShiftFlags p (shiftLeft p v).value (shiftLeft p v).p (v.toNat / 128) := by
  refine ⟨?_, shifted_shiftFlags_top p v _⟩
  change (v <<< 1).toNat = _
  rw [BitVec.toNat_shiftLeft, Nat.shiftLeft_eq, Nat.mul_comm]

/-- `ShiftRight`: the value halved, the lowest bit out (R151). -/
theorem shiftRight_spec : (shiftRight p v).value.toNat = v.toNat / 2 ∧
    ShiftFlags p (shiftRight p v).value (shiftRight p v).p (v.toNat % 2) :=
  ⟨BitVec.toNat_ushiftRight v 1, shifted_shiftFlags_low p v _⟩

/-- `RotateLeft`: the carry enters below, the top bit leaves (R151). -/
theorem rotateLeft_spec : (rotateLeft p v).value.toNat = (2 * v.toNat + carryOf p) % 256 ∧
    ShiftFlags p (rotateLeft p v).value (rotateLeft p v).p (v.toNat / 128) :=
  ⟨rotateLeft_value_toNat p v, shifted_shiftFlags_top p v _⟩

/-- `RotateRight`: the carry enters above, the lowest bit leaves (R151). -/
theorem rotateRight_spec : (rotateRight p v).value.toNat = v.toNat / 2 + 128 * carryOf p ∧
    ShiftFlags p (rotateRight p v).value (rotateRight p v).p (v.toNat % 2) :=
  ⟨rotateRight_value_toNat p v, shifted_shiftFlags_low p v _⟩

end

section
variable (s : State) (nn : Byte) (hhll : Word)

/-- Every memory form of ASL is `Modify(mode, ShiftLeft)` (R152). -/
theorem exec_aslForms : ∀ f ∈ aslForms nn hhll,
    exec f.instr s = .next ((s.fetched f.len).modify f.operand shiftLeft) := List.map_inj_left.mp rfl

/-- Every memory form of LSR is `Modify(mode, ShiftRight)` (R153). -/
theorem exec_lsrForms : ∀ f ∈ lsrForms nn hhll,
    exec f.instr s = .next ((s.fetched f.len).modify f.operand shiftRight) := List.map_inj_left.mp rfl

/-- Every memory form of ROL is `Modify(mode, RotateLeft)` (R154). -/
theorem exec_rolForms : ∀ f ∈ rolForms nn hhll,
    exec f.instr s = .next ((s.fetched f.len).modify f.operand rotateLeft) := List.map_inj_left.mp rfl

/-- Every memory form of ROR is `Modify(mode, RotateRight)` (R155). -/
theorem exec_rorForms : ∀ f ∈ rorForms nn hhll,
    exec f.instr s = .next ((s.fetched f.len).modify f.operand rotateRight) := List.map_inj_left.mp rfl

end

end Sys2Proof.Machine
end

section
/-! PROOFS. The obligation about the shifts and rotates (43_shift_rotate.md). -/

namespace Sys2Proof.Proofs

open Sys2Proof.Machine Sys2Proof.Claims

/-- Settles O41: each of the four operations by arithmetic, applied to A and, by `Modify`, in memory. -/
theorem shiftsAndRotates : Obligations.ShiftsAndRotates := by
  intro s nn hhll c flags asl lsr rol ror inA inMemory
  have hmemory (op : Byte → Byte → Modified) (does : Byte → Byte → Byte → Prop)
      (hop : ∀ v, does v (op s.p v).value (op s.p v).p) (f : MemoryForm)
      (hexec : exec f.instr s = .next ((s.fetched f.len).modify f.operand op)) : inMemory f does :=
    ⟨_, _, _, loadsFromBus_load s f.len f.operand, rfl, hexec, hop _⟩
  exact ⟨⟨_, _, rfl, shiftLeft_spec s.p s.a⟩, ⟨_, _, rfl, shiftRight_spec s.p s.a⟩,
    ⟨_, _, rfl, rotateLeft_spec s.p s.a⟩, ⟨_, _, rfl, rotateRight_spec s.p s.a⟩,
    fun f hf => hmemory _ asl (shiftLeft_spec s.p) f (exec_aslForms s nn hhll f hf),
    fun f hf => hmemory _ lsr (shiftRight_spec s.p) f (exec_lsrForms s nn hhll f hf),
    fun f hf => hmemory _ rol (rotateLeft_spec s.p) f (exec_rolForms s nn hhll f hf),
    fun f hf => hmemory _ ror (rotateRight_spec s.p) f (exec_rorForms s nn hhll f hf)⟩

end Sys2Proof.Proofs
end

section
/-! SUPPORT. Branch targets and the return address as numbers, and what the branches, JSR and RTS answer
(44_control.md). -/

namespace Sys2Proof.Machine

open Sys2Proof.Claims

/-- PC after the fetch, as an integer modulo 65536 (R104). -/
theorem State.fetched_pc_eq_ofInt (s : State) (len : Nat) :
    (s.fetched len).pc = BitVec.ofInt 16 (s.pc.toNat + len : Int) := by
  rw [State.fetched_pc, BitVec.ofInt_add, BitVec.ofInt_natCast, BitVec.ofInt_natCast, BitVec.ofNat_toNat,
    BitVec.setWidth_eq]

/-- The operand of a branch is a signed offset from the address after it (R114). -/
theorem State.branchTarget_fetched (s : State) (len : Nat) (off : Byte) :
    (s.fetched len).branchTarget off = BitVec.ofInt 16 (s.pc.toNat + len + off.toInt : Int) := by
  rw [BitVec.ofInt_add, ← State.fetched_pc_eq_ofInt]
  rfl

/-- A branch completes at its target or at the next instruction (R156). -/
theorem State.branchIf_eq_next (s : State) (cond : Bool) (off : Byte) :
    s.branchIf cond off = .next { s.fetched 2 with
      pc := BitVec.ofInt 16 (if cond = true then s.pc.toNat + 2 + off.toInt else (s.pc.toNat + 2 : Int)) } := by
  cases cond with
  | true => exact congrArg (Host.Outcome.next ∘ (s.fetched 2).jump) (s.branchTarget_fetched 2 off)
  | false => exact congrArg (Host.Outcome.next ∘ (s.fetched 2).jump) (s.fetched_pc_eq_ofInt 2)

/-- The stack byte that S names, in the vocabulary of the statements (R22). -/
theorem stackAddress_eq_stackByte (sp : Byte) : stackAddress sp = stackByte sp := by
  have := sp.isLt
  apply BitVec.eq_of_toNat_eq
  rw [stackAddress_toNat, stackByte, BitVec.toNat_ofNat]
  omega

/-- JSR pushes the address of its last byte (R166). -/
theorem State.returnAddress_toNat (s : State) : ((s.fetched 3).pc - 1).toNat = (s.pc.toNat + 2) % 65536 := by
  rw [State.fetched_pc]
  bv_omega

/-- The word one past the two bytes that RTS pulls (R167). -/
theorem wordOf_add_one (hi lo : Byte) : wordOf hi lo + 1 = BitVec.ofNat 16 (256 * hi.toNat + lo.toNat + 1) := by
  apply BitVec.eq_of_toNat_eq
  rw [BitVec.toNat_add, wordOf_toNat, BitVec.toNat_ofNat]
  rfl

/-- JSR is its two pushes and the jump, or the overflow fault (R166). -/
theorem exec_jsr (s : State) (hhll : Word) :
    exec (.jsr hhll) s = s.orFault .stackOverflow 0x20 ((s.fetched 3).pushReturn.map fun t => t.jump hhll) := rfl

/-- RTS is its two pulls with their jump, or the underflow fault (R167). -/
theorem exec_rts (s : State) : exec .rts s = s.orFault .stackUnderflow 0x60 (s.fetched 1).pullReturn := rfl

/-- JSR where both pushes have room (R166). -/
theorem exec_jsr_completes {s : State} (hhll : Word) (h0 : s.sp ≠ 0) (h1 : s.sp ≠ 1) :
    exec (.jsr hhll) s = .next { s.fetched 3 with
      bus := (s.bus.write (stackByte s.sp) (BitVec.ofNat 8 ((s.pc.toNat + 2) % 65536 / 256))).write
        (stackByte (s.sp - 1)) (BitVec.ofNat 8 (s.pc.toNat + 2))
      sp := s.sp - 2, pc := hhll } := by
  have hhigh : highByte ((s.fetched 3).pc - 1) = BitVec.ofNat 8 ((s.pc.toNat + 2) % 65536 / 256) := by
    rw [highByte_eq_ofNat, s.returnAddress_toNat]
  have hlow : lowByte ((s.fetched 3).pc - 1) = BitVec.ofNat 8 (s.pc.toNat + 2) := by
    apply BitVec.eq_of_toNat_eq
    rw [lowByte_toNat, s.returnAddress_toNat, BitVec.toNat_ofNat]
    omega
  have hpush := State.pushReturn_eq_some (s := s.fetched 3).mpr ⟨h0, h1, rfl⟩
  rw [hhigh, hlow, sub_sub, stackAddress_eq_stackByte, stackAddress_eq_stackByte] at hpush
  rw [exec_jsr, hpush]
  rfl

/-- JSR where one of its pushes would find S = 0 (R166, R190). -/
theorem exec_jsr_faults {s : State} (hhll : Word) (h : s.sp = 0 ∨ s.sp = 1) :
    exec (.jsr hhll) s = .next (faultedWith s .stackOverflow 0x20) := by
  rw [exec_jsr, (State.pushReturn_eq_none (s := s.fetched 3)).mpr h]
  rfl

/-- RTS where both pulls have a byte (R167). -/
theorem exec_rts_completes {s : State} (hFE : s.sp ≠ 0xFE) (hFF : s.sp ≠ 0xFF) :
    exec .rts s = .next { s.fetched 1 with
      sp := s.sp + 2
      pc := BitVec.ofNat 16 (256 * ((s.fetched 1).read .stack (stackByte (s.sp + 2))).toNat +
        ((s.fetched 1).read .stack (stackByte (s.sp + 1))).toNat + 1) } := by
  have hpull := State.pullReturn_eq_some (s := s.fetched 1).mpr ⟨hFE, hFF, rfl⟩
  rw [wordOf_add_one, add_assoc, stackAddress_eq_stackByte, stackAddress_eq_stackByte] at hpull
  rw [exec_rts, hpull]
  rfl

/-- RTS where one of its pulls would find S = 0xFF (R167, R190). -/
theorem exec_rts_faults {s : State} (h : s.sp = 0xFE ∨ s.sp = 0xFF) :
    exec .rts s = .next (faultedWith s .stackUnderflow 0x60) := by
  rw [exec_rts, (State.pullReturn_eq_none (s := s.fetched 1)).mpr h]
  rfl

end Sys2Proof.Machine
end

section
/-! PROOFS. The obligations about branches, subroutine call and return (44_control.md). -/

namespace Sys2Proof.Proofs

open Sys2Proof.Machine Sys2Proof.Claims

/-- Settles O43: each of the eight is a branch on its flag or on the flag's complement. -/
theorem branchesTestTheirFlag : Obligations.BranchesTestTheirFlag := by
  intro s nn
  have hset (f : Flag) := s.branchIf_eq_next (getFlag s.p f) nn
  have hclear (f : Flag) := s.branchIf_eq_next (!getFlag s.p f) nn
  simp only [Bool.not_eq_true'] at hclear
  simp only [List.forall_mem_cons]
  exact ⟨hclear .n, hset .n, hclear .v, hset .v, hclear .c, hset .c, hclear .z, hset .z, List.forall_mem_nil _⟩

/-- Settles O45: both pushes are made, or neither when S leaves no room for two. -/
theorem jsrPushesTheReturnAddress : Obligations.JsrPushesTheReturnAddress := by
  intro s hhll
  refine ⟨fun h => exec_jsr_completes hhll ?_ ?_, fun h => exec_jsr_faults hhll ?_⟩ <;> bv_omega

/-- Settles O46: both pulls are made, or neither when S has passed all but one byte. -/
theorem rtsPullsTheReturnAddress : Obligations.RtsPullsTheReturnAddress := by
  intro s
  refine ⟨(s.fetched 1).readsTheBus, fun h => exec_rts_completes ?_ ?_, fun h => exec_rts_faults ?_⟩ <;> bv_omega

end Sys2Proof.Proofs
end

section
/-! SUPPORT. The stack byte behind the bus, what the pushes and pulls answer, and one flag written
(45_stack_flag_system.md). -/

namespace Sys2Proof.Machine

open Sys2Proof.Claims

/-! ### The stack byte -/

theorem stackByte_toNat (sp : Byte) : (stackByte sp).toNat = 256 + sp.toNat := by
  rw [← stackAddress_eq_stackByte, stackAddress_toNat]

/-- Page 1 is RAM to a write under every bank state (R22, R84). -/
theorem writeCell_stackByte (bank : Bank) (sp : Byte) : writeCell bank (stackByte sp) = .ram (stackByte sp).toNat := by
  have := stackByte_toNat sp
  exact writeCell_ram bank (by omega) (by omega)

/-- Page 1 is RAM to a read under every bank state (R22, R84). -/
theorem readCell_stackByte (bank : Bank) (sp : Byte) : readCell bank (stackByte sp) = .ram (stackByte sp).toNat := by
  have := stackByte_toNat sp
  exact readCell_direct bank (by omega)

/-- The RAM after a byte is written to the stack. -/
theorem Bus.write_stackByte_ram (b : Bus) (sp v : Byte) :
    (b.write (stackByte sp) v).ram = b.ram.write (256 + sp.toNat) v := by
  rw [Bus.write_of_ram v (writeCell_stackByte b.bank sp), stackByte_toNat]

/-- A stack byte reads as written. -/
theorem Bus.read_write_stackByte {b : Bus} (hb : b.wf = true) (d sp v : Byte) :
    (b.write (stackByte sp) v).read d (stackByte sp) = v :=
  Bus.read_write_ram hb d v (b.write (stackByte sp) v).port (writeCell_stackByte ..) (readCell_stackByte ..)

/-! ### Push and pull -/

/-- `Push(v)` where there is room (R169). -/
theorem State.push_of_sp_ne_zero {s : State} (v : Byte) (h : s.sp ≠ 0) :
    s.push v = some { s with bus := s.bus.write (stackByte s.sp) v, sp := s.sp - 1 } := by
  rw [← stackAddress_eq_stackByte]
  exact State.push_eq_some.mpr ⟨h, rfl⟩

/-- `Pull()` where there is a byte (R170). -/
theorem State.pull_of_sp_ne_0xFF {s : State} (h : s.sp ≠ 0xFF) :
    s.pull = some ({ s with sp := s.sp + 1 }, s.read .stack (stackByte (s.sp + 1))) := by
  rw [← stackAddress_eq_stackByte]
  exact State.pull_eq_some.mpr ⟨h, rfl, rfl⟩

/-- A pull after a push finds S one below the byte pushed, and so gives back that byte and the old S (R169, R170). -/
theorem State.pull_of_push {s t : State} {v : Byte} (hwf : s.wf = true) (hpush : s.push v = some t) :
    ∃ u, t.pull = some (u, v) ∧ u.sp = s.sp := by
  obtain ⟨hsp, rfl⟩ := State.push_eq_some.mp hpush
  have hpull : s.sp - 1 ≠ 0xFF := by bv_omega
  have hback : s.sp - 1 + 1 = s.sp := sub_add_cancel ..
  refine ⟨_, State.pull_eq_some.mpr ⟨hpull, rfl, ?_⟩, hback⟩
  rw [hback, stackAddress_eq_stackByte, State.read_eq]
  exact (Bus.read_write_stackByte hwf _ s.sp v).symm

/-- An instruction of one byte that pushes `v`, where there is room (R169). -/
theorem State.orFault_push {s : State} (op v : Byte) (h : s.sp ≠ 0) :
    s.orFault .stackOverflow op ((s.fetched 1).push v) =
      .next { s.fetched 1 with bus := s.bus.write (stackByte s.sp) v, sp := s.sp - 1 } := by
  rw [State.push_of_sp_ne_zero (s := s.fetched 1) v h]
  rfl

/-- An instruction of one byte that pushes, at S = 0 (R169, R190). -/
theorem State.orFault_push_faults {s : State} (op v : Byte) (h : s.sp = 0) :
    s.orFault .stackOverflow op ((s.fetched 1).push v) = .next (faultedWith s .stackOverflow op) := by
  rw [(State.push_eq_none (s := s.fetched 1)).mpr h]
  rfl

/-- An instruction of one byte that pulls and ends in `f`, where there is a byte (R170). -/
theorem State.orFault_pull {s : State} (op : Byte) (f : State × Byte → State) (h : s.sp ≠ 0xFF) :
    s.orFault .stackUnderflow op ((s.fetched 1).pull.map f) =
      .next (f ({ s.fetched 1 with sp := s.sp + 1 }, (s.fetched 1).read .stack (stackByte (s.sp + 1)))) := by
  rw [State.pull_of_sp_ne_0xFF (s := s.fetched 1) h]
  rfl

/-- An instruction of one byte that pulls, at S = 0xFF (R170, R190). -/
theorem State.orFault_pull_faults {s : State} (op : Byte) (f : State × Byte → State) (h : s.sp = 0xFF) :
    s.orFault .stackUnderflow op ((s.fetched 1).pull.map f) = .next (faultedWith s .stackUnderflow op) := by
  rw [(State.pull_eq_none (s := s.fetched 1)).mpr h]
  rfl

/-! ### The instructions -/

/-- PHP_OR stands at bits 5 and 4 of the byte that PHP ors in (R7, R172). -/
theorem phpOr_eq_ofNat (q : Params) : phpOr q = BitVec.ofNat 8 (16 * q.phpOr.toNat) := by
  have h : ∀ bits : BitVec 2, (0#2 ++ bits) ++ 0#4 = BitVec.ofNat 8 (16 * bits.toNat) := by decide
  exact h q.phpOr

/-- PHA is a push of A, or the overflow fault (R171). -/
theorem exec_pha (s : State) : exec .pha s = s.orFault .stackOverflow 0x48 ((s.fetched 1).push s.a) := rfl

/-- PHP is a push of P with PHP_OR or-ed in, or the overflow fault (R172). -/
theorem exec_php (s : State) : exec .php s =
    s.orFault .stackOverflow 0x08 ((s.fetched 1).push (s.p ||| BitVec.ofNat 8 (16 * s.params.phpOr.toNat))) := by
  rw [← phpOr_eq_ofNat]
  rfl

/-- PLA is a pull into A with SetNZ, or the underflow fault (R173). -/
theorem exec_pla (s : State) : exec .pla s =
    s.orFault .stackUnderflow 0x68 ((s.fetched 1).pull.map fun t => t.1.setA t.2) := rfl

/-- PLP is a pull into P, or the underflow fault (R174). -/
theorem exec_plp (s : State) : exec .plp s =
    s.orFault .stackUnderflow 0x28 ((s.fetched 1).pull.map fun t => { t.1 with p := t.2 }) := rfl

/-- One flag written: it holds what was written, and every other bit of P is as before. -/
theorem setFlag_spec (p : Byte) (f : Flag) (on : Bool) :
    getFlag (setFlag p f on) f = on ∧ KeepsFlags [f] p (setFlag p f on) := by
  refine ⟨?_, keepsFlags_setFlag on (List.mem_singleton_self f) (keepsFlags_refl [f] p)⟩
  rw [getFlag_setFlag, if_pos rfl]

/-- PC after the fetch, as a number modulo 65536 (R104). -/
theorem State.fetched_pc_eq_ofNat (s : State) (len : Nat) :
    (s.fetched len).pc = BitVec.ofNat 16 ((s.pc.toNat + len) % 65536) := by
  apply BitVec.eq_of_toNat_eq
  rw [State.fetched_pc, BitVec.toNat_add, BitVec.toNat_ofNat, BitVec.toNat_ofNat, Nat.add_mod_mod, Nat.mod_mod]

end Sys2Proof.Machine
end

section
/-! PROOFS. The obligations about the stack, the flag instructions and the system instructions
(45_stack_flag_system.md). -/

namespace Sys2Proof.Proofs

open Sys2Proof.Machine Sys2Proof.Claims

/-- Settles O48: PHA and PHP are one push each; its byte lies in RAM above $0100 when S is not 0. -/
theorem pushInstructions : Obligations.PushInstructions := by
  intro s pushed
  have hpushed {i : Instr} {op v : Byte} (hexec : exec i s = s.orFault .stackOverflow op ((s.fetched 1).push v)) :
      pushed i op v := by
    refine ⟨fun hsp => ⟨hexec.trans (State.orFault_push op v hsp), fun hwf => ?written, ?bottom⟩,
      fun hsp => hexec.trans (State.orFault_push_faults op v hsp)⟩
    case written =>
      rw [Bus.write_stackByte_ram]
      exact Bus.ram_read_write_self hwf _ v
    case bottom =>
      rw [Bus.write_stackByte_ram]
      exact Store.read_write_other _ v (by bv_omega)
  exact ⟨hpushed (exec_pha s), hpushed (exec_php s)⟩

/-- Settles O49: PLA and PLP are one pull each, ending in A with SetNZ and in P. -/
theorem pullInstructions : Obligations.PullInstructions := by
  intro s v
  refine ⟨(s.fetched 1).readsTheBus, fun hsp => ⟨⟨setNZ s.p v, setNZ_nzOf s.p v, ?_⟩, ?_⟩, fun hsp => ⟨?_, ?_⟩⟩
  · exact (exec_pla s).trans (State.orFault_pull _ _ hsp)
  · exact (exec_plp s).trans (State.orFault_pull _ _ hsp)
  · exact (exec_pla s).trans (State.orFault_pull_faults _ _ hsp)
  · exact (exec_plp s).trans (State.orFault_pull_faults _ _ hsp)

/-- Settles O50: both primitives on each side of their bound, and the round trip. -/
theorem pullUndoesPush : Obligations.PullUndoesPush := fun s v =>
  ⟨s.readsTheBus, State.push_eq_none.mpr, State.push_of_sp_ne_zero v, State.pull_eq_none.mpr, State.pull_of_sp_ne_0xFF,
    fun hwf _ hpush => State.pull_of_push hwf hpush⟩

/-- Settles O51: each of the seven is the fetch and one flag written. -/
theorem flagInstructionsWriteOneFlag : Obligations.FlagInstructionsWriteOneFlag := by
  intro s
  have hwrites {i : Instr} (f : Flag) (on : Bool) (hexec : exec i s = .next ((s.fetched 1).withFlag f on)) :
      ∃ q, exec i s = .next { s.fetched 1 with p := q } ∧ getFlag q f = on ∧ KeepsFlags [f] s.p q :=
    ⟨_, hexec, setFlag_spec s.p f on⟩
  simp only [List.forall_mem_cons]
  exact ⟨hwrites .c false rfl, hwrites .c true rfl, hwrites .i false rfl, hwrites .i true rfl, hwrites .d false rfl,
    hwrites .d true rfl, hwrites .v false rfl, List.forall_mem_nil _⟩

/-- Settles O52: NOP is its fetch, and a fetch advances PC and IC. -/
theorem nopOnlyAdvances : Obligations.NopOnlyAdvances := by
  refine ⟨fun s => rfl, fun s len => ?_⟩
  rw [← State.fetched_pc_eq_ofNat]
  rfl

/-- Settles O53: BRK and RTI are `raiseFault .unsupported`, with no fetch before it. -/
theorem brkAndRtiAreUnsupported : Obligations.BrkAndRtiAreUnsupported := ⟨rfl, fun _ => ⟨rfl, rfl⟩⟩

end Sys2Proof.Proofs
end

section
/-! SUPPORT. The dispatch table against the encoder and the list of empty opcode bytes, and what an instruction that
faults says of the state before it (30_encoding.md, 60_exceptions.md). -/

namespace Sys2Proof

/-- The opcode byte of the instruction that a format makes of the operand `w`, whose low byte is the operand of the
two-byte format. -/
def Format.opcode (f : Format) (w : Word) : Byte :=
  match f with
  | .f1 i => opcodeOf i
  | .f2 mk => opcodeOf (mk (lowByte w))
  | .f3 mk => opcodeOf (mk w)

/-- An instruction that a format assembles has the format's opcode byte. -/
theorem Format.opcodeOf_assemble {f : Format} {bytes rest : List Byte} {i : Instr}
    (h : f.assemble bytes = some (i, rest)) : ∃ w, opcodeOf i = f.opcode w := by
  match f, bytes with
  | .f1 _, _ => cases h; exact ⟨0, rfl⟩
  | .f2 _, nn :: _ => cases h; exact ⟨wordOf 0 nn, by rw [Format.opcode, lowByte_wordOf]⟩
  | .f3 _, ll :: hh :: _ => cases h; exact ⟨wordOf hh ll, rfl⟩

/-- Row by row, each entry of the opcode map has the opcode byte of its row and column, whatever the operand (R97). -/
theorem opcodeRow_opcode {hi : Nat} (h : hi < 16) (w : Word) :
    (opcodeRow hi).map (Option.map (·.opcode w)) =
      (opcodeRow hi).zipIdx.map fun e => e.1.map fun _ => BitVec.ofNat 8 (16 * hi + e.2) := by
  interval_cases hi <;> rfl

/-- The lookup of an opcode byte finds an entry of that opcode byte (R96, R97). -/
theorem dispatchEntry_opcode {op : Byte} {f : Format} (h : dispatchEntry op = some f) (w : Word) : f.opcode w = op := by
  have hentry : (opcodeRow (op.toNat / 16))[op.toNat % 16]? = some (some f) := Option.join_eq_some_iff.mp h
  have hrow : op.toNat / 16 < 16 := by have := op.isLt; omega
  have hop : BitVec.ofNat 8 (16 * (op.toNat / 16) + op.toNat % 16) = op := by
    rw [Nat.div_add_mod, BitVec.ofNat_toNat, BitVec.setWidth_eq]
  have hcolumn := congrArg (·[op.toNat % 16]?) (opcodeRow_opcode hrow w)
  simpa [hentry, hop] using hcolumn

/-- The instruction decoded is one of the opcode byte read first (R96). -/
theorem opcodeOf_of_decode {op : Byte} {bytes rest : List Byte} {i : Instr}
    (h : decode (op :: bytes) = some (i, rest)) : opcodeOf i = op := by
  obtain ⟨f, hf, hassemble⟩ := Option.bind_eq_some_iff.mp (decode_cons op bytes ▸ h)
  obtain ⟨w, hw⟩ := Format.opcodeOf_assemble hassemble
  exact hw.trans (dispatchEntry_opcode hf w)

/-- The bytes that R98 lists are empty in the opcode map. -/
theorem dispatchEntry_eq_none_of_mem : ∀ op ∈ illegalOpcodes, dispatchEntry op = none := by
  have hempty : illegalOpcodes.all (dispatchEntry · |>.isNone) = true := by decide
  simpa using hempty

end Sys2Proof

namespace Sys2Proof.Machine

open Sys2Proof.Claims

/-- The fault that an operation raises, in the vocabulary of the statements (R190). -/
theorem State.raiseFault_eq_faultedWith (s : State) (k : FaultKind) (op : Byte) :
    s.raiseFault k op = faultedWith s k op := rfl

/-- The instruction decoded from what is fetched has the opcode byte at PC (R186). -/
theorem State.opcodeOf_of_decode_fetchBytes {s : State} {i : Instr} {rest : List Byte}
    (h : decode s.fetchBytes = some (i, rest)) : opcodeOf i = s.read .opcode s.pc := by
  obtain ⟨operands, hfetch⟩ := s.fetchBytes_eq_cons
  exact opcodeOf_of_decode (hfetch ▸ h)

/-- No operand byte of an empty opcode byte is fetched (R192). -/
theorem State.fetchBytes_of_no_entry {s : State} (h : dispatchEntry (s.read .opcode s.pc) = none) :
    s.fetchBytes = [s.read .opcode s.pc] := by
  simp [State.fetchBytes, h]

/-- A step of a running state whose bytes do not decode (R192). -/
theorem step_of_decode_eq_none {s : State} (hs : s.status = .running) (hd : decode s.fetchBytes = none) :
    step s = .next (faultedWith s .unknownOpcode (s.read .opcode s.pc)) := by
  simp only [step, hs, hd, State.raiseFault_eq_faultedWith]

/-- A Faulted state has no step (R190). -/
theorem step_of_faulted {s : State} {k : FaultKind} {pc : Word} {op : Byte} {n : Nat}
    (h : s.status = .faulted k pc op n) : step s = .fault (.halted k pc op n) := by
  simp only [step, h]

/-- A run ends successfully in a running state alone (R206). -/
theorem State.endedAt_of_status_ne_running {s : State} (h : s.status ≠ .running) (stopPc : Word) :
    s.endedAt stopPc = false := by
  simp [State.endedAt, h]

/-- The causes of the faults that an instruction raises (R191, R193, R194). -/
def FaultCause (i : Instr) (s : State) (k : FaultKind) : Prop :=
  (k = .unsupported ∧ (i = .brk ∨ i = .rti)) ∨
  (k = .stackOverflow ∧ (i = .pha ∨ i = .php) ∧ s.sp = 0x00) ∨
  (k = .stackOverflow ∧ (∃ hhll, i = .jsr hhll) ∧ (s.sp = 0x00 ∨ s.sp = 0x01)) ∨
  (k = .stackUnderflow ∧ (i = .pla ∨ i = .plp) ∧ s.sp = 0xFF) ∨
  (k = .stackUnderflow ∧ i = .rts ∧ (s.sp = 0xFE ∨ s.sp = 0xFF))

/-- At a cause of a fault the instruction raises that fault. -/
theorem exec_of_faultCause {i : Instr} {s : State} {k : FaultKind} (h : FaultCause i s k) :
    exec i s = .next (faultedWith s k (opcodeOf i)) := by
  rcases h with ⟨rfl, rfl | rfl⟩ | ⟨rfl, rfl | rfl, hsp⟩ | ⟨rfl, ⟨hhll, rfl⟩, hsp⟩ | ⟨rfl, rfl | rfl, hsp⟩ |
    ⟨rfl, rfl, hsp⟩
  · rfl
  · rfl
  · exact (exec_pha s).trans (State.orFault_push_faults _ _ hsp)
  · exact (exec_php s).trans (State.orFault_push_faults _ _ hsp)
  · exact exec_jsr_faults hhll hsp
  · exact (exec_pla s).trans (State.orFault_pull_faults _ _ hsp)
  · exact (exec_plp s).trans (State.orFault_pull_faults _ _ hsp)
  · exact exec_rts_faults hsp

/-- An instruction of one byte that pushes keeps STATUS, or S is 0 (R169). -/
theorem State.status_of_orFault_push {s t : State} {op v : Byte}
    (h : s.orFault .stackOverflow op ((s.fetched 1).push v) = .next t) : t.status = s.status ∨ s.sp = 0x00 := by
  by_cases hsp : s.sp = 0x00
  · exact .inr hsp
  · cases (State.orFault_push op v hsp).symm.trans h
    exact .inl rfl

/-- An instruction of one byte that pulls and ends in `f` keeps STATUS as `f` does, or S is 0xFF (R170). -/
theorem State.status_of_orFault_pull {s t : State} {op : Byte} {f : State × Byte → State}
    (hf : ∀ u v, (f (u, v)).status = u.status)
    (h : s.orFault .stackUnderflow op ((s.fetched 1).pull.map f) = .next t) : t.status = s.status ∨ s.sp = 0xFF := by
  by_cases hsp : s.sp = 0xFF
  · exact .inr hsp
  · cases (State.orFault_pull op f hsp).symm.trans h
    exact .inl (hf _ _)

/-- An instruction that meets no cause of a fault leaves STATUS as it was. -/
theorem exec_status_or_faultCause {i : Instr} {s t : State} (h : exec i s = .next t) :
    t.status = s.status ∨ ∃ k, FaultCause i s k := by
  cases i
  case brk | rti => exact .inr ⟨.unsupported, by simp [FaultCause]⟩
  case pha =>
    exact (State.status_of_orFault_push (exec_pha s ▸ h)).imp_right fun hsp =>
      ⟨.stackOverflow, by simp [FaultCause, hsp]⟩
  case php =>
    exact (State.status_of_orFault_push (exec_php s ▸ h)).imp_right fun hsp =>
      ⟨.stackOverflow, by simp [FaultCause, hsp]⟩
  case pla =>
    exact (State.status_of_orFault_pull (fun _ _ => rfl) (exec_pla s ▸ h)).imp_right fun hsp =>
      ⟨.stackUnderflow, by simp [FaultCause, hsp]⟩
  case plp =>
    exact (State.status_of_orFault_pull (fun _ _ => rfl) (exec_plp s ▸ h)).imp_right fun hsp =>
      ⟨.stackUnderflow, by simp [FaultCause, hsp]⟩
  case jsr hhll =>
    by_cases hsp : s.sp = 0x00 ∨ s.sp = 0x01
    · exact .inr ⟨.stackOverflow, by simpa [FaultCause] using hsp⟩
    · obtain ⟨h0, h1⟩ := not_or.mp hsp
      cases (exec_jsr_completes hhll h0 h1).symm.trans h
      exact .inl rfl
  case rts =>
    by_cases hsp : s.sp = 0xFE ∨ s.sp = 0xFF
    · exact .inr ⟨.stackUnderflow, by simpa [FaultCause] using hsp⟩
    · obtain ⟨hFE, hFF⟩ := not_or.mp hsp
      cases (exec_rts_completes hFE hFF).symm.trans h
      exact .inl rfl
  case bpl _ | bmi _ | bvc _ | bvs _ | bcc _ | bcs _ | bne _ | beq _ =>
    obtain ⟨_, rfl⟩ := State.branchIf_eq h
    exact .inl rfl
  all_goals
    cases h
    exact .inl rfl

/-- When an instruction of a running state answers a Faulted state, the kind recorded is the one of its cause, and
conversely. -/
theorem exec_status_faulted_iff {i : Instr} {s t : State} (hs : s.status = .running) (h : exec i s = .next t)
    (k : FaultKind) : (∃ pc op n, t.status = .faulted k pc op n) ↔ FaultCause i s k := by
  constructor
  · rintro ⟨pc, op, n, ht⟩
    rcases exec_status_or_faultCause h with hstatus | ⟨k', hcause⟩
    · cases (ht.symm.trans hstatus).trans hs
    · cases (exec_of_faultCause hcause).symm.trans h
      cases ht
      exact hcause
  · intro hcause
    cases (exec_of_faultCause hcause).symm.trans h
    exact ⟨_, _, _, rfl⟩

end Sys2Proof.Machine
end

section
/-! PROOFS. The obligations about the fatal faults (60_exceptions.md). -/

namespace Sys2Proof.Proofs

open Sys2Proof.Machine Sys2Proof.Claims

/-- Settles O7: a step is the instruction decoded, which completes or raises a fault of its own opcode byte, or it is
the `UnknownOpcode` fault. -/
theorem aFaultLeavesEverythingElse : Obligations.AFaultLeavesEverythingElse := by
  refine ⟨fun s t hstep ht => ?_, fun s k pc op n hs => ⟨step_of_faulted hs, ?_⟩⟩
  · obtain ⟨hs, ⟨i, rest, hdecode, hexec⟩ | ⟨-, rfl⟩⟩ := step_cases hstep
    · rcases exec_cases hexec with hdone | ⟨k, rfl⟩
      · exact absurd (hdone.status.trans hs) ht
      · exact ⟨k, by rw [State.raiseFault_eq_faultedWith, State.opcodeOf_of_decode_fetchBytes hdecode]⟩
    · exact ⟨_, s.raiseFault_eq_faultedWith _ _⟩
  · exact State.endedAt_of_status_ne_running (by rw [hs]; exact Status.noConfusion)

/-- Settles O6: an illegal byte has no entry, so it is fetched alone and does not decode. -/
theorem illegalOpcodesAreFatal : Obligations.IllegalOpcodesAreFatal := by
  refine ⟨rfl, by decide, rfl, fun s hs hillegal => ?_⟩
  have hentry := dispatchEntry_eq_none_of_mem _ hillegal
  have hfetch := State.fetchBytes_of_no_entry hentry
  refine ⟨hfetch, step_of_decode_eq_none hs ?_⟩
  rw [hfetch, decode_cons, hentry, Option.bind_none]

/-- Settles O8: at a cause the fault is raised, and away from every cause STATUS is left running. -/
theorem faultsHappenExactlyAtTheirCauses : Obligations.FaultsHappenExactlyAtTheirCauses := by
  refine ⟨rfl, rfl, rfl, fun i s t k hs h => ⟨exec_status_faulted_iff hs h k, fun hcause => ?_⟩⟩
  cases (exec_of_faultCause hcause).symm.trans h
  rfl

end Sys2Proof.Proofs
end

section
/-! SUPPORT. The window $E000-$FFFF under any draw and under PORT[1] = 1, and the PC that power-on reads there
(70_reset_and_hazards.md). -/

namespace Sys2Proof.Machine

open Sys2Proof.Claims Sys2Proof.Proofs

/-- No read of $E000-$FFFF looks at the draw: RAM or the KERNAL image answers it (R66). -/
theorem Bus.read_e_eq_of_draws (b : Bus) (d d' : Byte) {addr : Word} (h : 0xE000 ≤ addr.toNat) :
    b.read d addr = b.read d' addr :=
  ((windowReads b d addr).2.1 h).trans ((windowReads b d' addr).2.1 h).symm

/-- With PORT[1] set BANK.E is KERNAL (R54). -/
theorem Bus.bank_e_of_port {b : Bus} (hport : b.port.getLsbD 1 = true) : b.bank.e = .kernal := by
  have hm : (b.port.setWidth 3).getLsbD 1 = true := by simp [hport]
  exact (bankOfThePort (b.port.setWidth 3)).2.1.trans (if_pos hm)

/-- With PORT[1] set the KERNAL image answers $E000-$FFFF (R66). -/
theorem Bus.read_kernal {b : Bus} (hport : b.port.getLsbD 1 = true) (d : Byte) {addr : Word}
    (h : 0xE000 ≤ addr.toNat) : b.read d addr = b.kernalRom.read (addr.toNat - 0xE000) :=
  ((windowReads b d addr).2.1 h).trans (if_pos (Bus.bank_e_of_port hport))

/-- Power-on puts in PC the word at the reset vector, whatever the draws of its two reads (R208). -/
theorem State.powerOn_pc_toNat (p : PowerOn) (d : Byte) :
    (State.powerOn p).pc.toNat = 256 * (p.bus.read d 0xFFFD).toNat + (p.bus.read d 0xFFFC).toNat := by
  rw [p.bus.read_e_eq_of_draws d 0 (by decide), p.bus.read_e_eq_of_draws d 0 (by decide)]
  exact wordOf_toNat _ _

end Sys2Proof.Machine
end

section
/-! PROOFS. The obligation about the state after power-on (70_reset_and_hazards.md). -/

namespace Sys2Proof.Proofs

open Sys2Proof.Machine Sys2Proof.Claims

/-- Settles O10: the vector lies in $E000-$FFFF, where no read looks at the draw and PORT[1] shows the KERNAL image. -/
theorem powerOnState : Obligations.PowerOnState := by
  intro p d
  have hpc := State.powerOn_pc_toNat p d
  refine ⟨rfl, rfl, fun _ => BitVec.getLsbD_zero, BitVec.getLsbD_zero, rfl, rfl, rfl, rfl, rfl, rfl, rfl, rfl, hpc,
    fun hport => ?_⟩
  rw [hpc, Bus.read_kernal hport d (by decide), Bus.read_kernal hport d (by decide)]
  rfl

end Sys2Proof.Proofs
end

section
/-! SUPPORT. The decoder and the encoder against one table: what each entry's instruction encodes to, and which bytes
have an entry (30_encoding.md). -/

namespace Sys2Proof

/-- The instruction that a format makes of the operand `w`, whose low byte is the operand of the two-byte format. -/
def Format.instr (f : Format) (w : Word) : Instr :=
  match f with
  | .f1 i => i
  | .f2 mk => mk (lowByte w)
  | .f3 mk => mk w

/-- The operand bytes of a format for the operand `w`, in address order (R93, R95). -/
def Format.operands (f : Format) (w : Word) : List Byte :=
  match f with
  | .f1 _ => []
  | .f2 _ => [lowByte w]
  | .f3 _ => [lowByte w, highByte w]

@[simp] theorem Format.length_operands (f : Format) (w : Word) : (f.operands w).length = f.operandBytes := by
  cases f <;> rfl

/-- Assembling reads the operand bytes of the instruction and leaves the rest (R93, R95). -/
theorem Format.assemble_eq_some {f : Format} {bytes rest : List Byte} {i : Instr}
    (h : f.assemble bytes = some (i, rest)) : ∃ w, i = f.instr w ∧ bytes = f.operands w ++ rest := by
  match f, bytes with
  | .f1 _, _ => cases h; exact ⟨0, rfl, rfl⟩
  | .f2 _, nn :: _ => cases h; exact ⟨wordOf 0 nn, by simp [Format.instr], by simp [Format.operands]⟩
  | .f3 _, ll :: hh :: _ => cases h; exact ⟨wordOf hh ll, rfl, by simp [Format.operands]⟩

/-- Bytes as many as the operand bytes of a format are the operand bytes of some operand. -/
theorem Format.exists_operands_eq {f : Format} {bytes : List Byte} (h : bytes.length = f.operandBytes) :
    ∃ w, bytes = f.operands w := by
  match f, bytes, h with
  | .f1 _, [], _ => exact ⟨0, rfl⟩
  | .f2 _, [nn], _ => exact ⟨wordOf 0 nn, by simp [Format.operands]⟩
  | .f3 _, [ll, hh], _ => exact ⟨wordOf hh ll, by simp [Format.operands]⟩

/-- Row by row, the encoder writes the opcode byte of the row and column and the operand bytes of the entry (R97). -/
theorem opcodeRow_encode {hi : Nat} (h : hi < 16) (w : Word) :
    (opcodeRow hi).map (Option.map fun f => encode (f.instr w)) =
      (opcodeRow hi).zipIdx.map fun e => e.1.map fun f => BitVec.ofNat 8 (16 * hi + e.2) :: f.operands w := by
  interval_cases hi <;> rfl

/-- The instructions of an entry of the dispatch table are encoded as its opcode byte and operand bytes (R93, R97). -/
theorem encode_of_dispatchEntry {op : Byte} {f : Format} (h : dispatchEntry op = some f) (w : Word) :
    encode (f.instr w) = op :: f.operands w := by
  have hentry : (opcodeRow (op.toNat / 16))[op.toNat % 16]? = some (some f) := Option.join_eq_some_iff.mp h
  have hrow : op.toNat / 16 < 16 := by have := op.isLt; omega
  have hop : BitVec.ofNat 8 (16 * (op.toNat / 16) + op.toNat % 16) = op := by
    rw [Nat.div_add_mod, BitVec.ofNat_toNat, BitVec.setWidth_eq]
  have hcolumn := congrArg (·[op.toNat % 16]?) (opcodeRow_encode hrow w)
  simpa [hentry, hop] using hcolumn

/-- The inversion of `decode`: an entry of the table is found and its instruction is read off its operand bytes. -/
theorem decode_eq_some {bytes rest : List Byte} {i : Instr} (h : decode bytes = some (i, rest)) :
    ∃ op f w, dispatchEntry op = some f ∧ i = f.instr w ∧ bytes = op :: f.operands w ++ rest := by
  match bytes with
  | op :: tail =>
    obtain ⟨f, hf, hassemble⟩ := Option.bind_eq_some_iff.mp (decode_cons op tail ▸ h)
    obtain ⟨w, hi, htail⟩ := Format.assemble_eq_some hassemble
    exact ⟨op, f, w, hf, hi, congrArg (op :: ·) htail⟩

/-- Decoding an instruction of three bytes puts the two bytes of its word together again (R95). -/
theorem decode_three_bytes {op : Byte} {mk : Word → Instr} (h : dispatchEntry op = some (.f3 mk)) (w : Word)
    (rest : List Byte) : decode (op :: lowByte w :: highByte w :: rest) = some (mk w, rest) := by
  rw [decode_cons, h, Option.bind_some, Format.assemble, wordOf_highByte_lowByte]

/-- Decoding is a left inverse of encoding; without a word operand nothing has to be put together. -/
theorem decode_encode_append (i : Instr) (rest : List Byte) : decode (encode i ++ rest) = some (i, rest) := by
  cases i
  case adcAbs w | adcAbsx w | adcAbsy w | andAbs w | andAbsx w | andAbsy w | aslAbs w | aslAbsx w | bitAbs w |
      cmpAbs w | cmpAbsx w | cmpAbsy w | cpxAbs w | cpyAbs w | decAbs w | decAbsx w | eorAbs w | eorAbsx w |
      eorAbsy w | incAbs w | incAbsx w | jmpAbs w | jmpInd w | jsr w | ldaAbs w | ldaAbsx w | ldaAbsy w | ldxAbs w |
      ldxAbsy w | ldyAbs w | ldyAbsx w | lsrAbs w | lsrAbsx w | oraAbs w | oraAbsx w | oraAbsy w | rolAbs w |
      rolAbsx w | rorAbs w | rorAbsx w | sbcAbs w | sbcAbsx w | sbcAbsy w | staAbs w | staAbsx w | staAbsy w |
      stxAbs w | styAbs w =>
    exact decode_three_bytes rfl w rest
  all_goals rfl

/-- Every instruction is made by an entry of the dispatch table. -/
theorem exists_dispatchEntry (i : Instr) :
    ∃ op f w, dispatchEntry op = some f ∧ i = f.instr w ∧ encode i = op :: f.operands w := by
  obtain ⟨op, f, w, hf, rfl, -⟩ := decode_eq_some (decode_encode_append i [])
  exact ⟨op, f, w, hf, rfl, encode_of_dispatchEntry hf w⟩

/-- The dispatch table is empty at the bytes that R98 lists, and elsewhere its formats have the lengths of the columns
of the opcode map (R94, R98). -/
theorem dispatchEntry_operandBytes : ∀ op : Byte, (dispatchEntry op).map Format.operandBytes =
    if illegalOpcodes.contains op then none else some (operandBytesByColumn op) := by
  decide

/-- A byte that has an entry is not empty, and its column tells how many operand bytes follow. -/
theorem encodingWf_iff {op : Byte} {operands : List Byte} : encodingWf (op :: operands) = true ↔
    ∃ f, dispatchEntry op = some f ∧ operands.length = f.operandBytes := by
  have hentry := dispatchEntry_operandBytes op
  simp only [encodingWf, Bool.and_eq_true, Bool.not_eq_true', beq_iff_eq]
  constructor
  · rintro ⟨hlegal, hlength⟩
    rw [hlegal, if_neg Bool.false_ne_true] at hentry
    obtain ⟨f, hf, hbytes⟩ := Option.map_eq_some_iff.mp hentry
    exact ⟨f, hf, hlength.trans hbytes.symm⟩
  · rintro ⟨f, hf, hlength⟩
    rw [hf, Option.map_some] at hentry
    split at hentry
    next => cases hentry
    next hlegal => exact ⟨Bool.eq_false_iff.mpr hlegal, hlength.trans (Option.some.inj hentry)⟩

end Sys2Proof

namespace Sys2Proof.Machine

/-- What is fetched decodes to the instruction that the three bytes at PC decode to (R94, R186). -/
theorem State.decode_fetchBytes {s : State} {i : Instr} {rest : List Byte}
    (h : decode [s.read .opcode s.pc, s.read .operand1 (s.pc + 1), s.read .operand2 (s.pc + 2)] = some (i, rest)) :
    ∃ left, decode s.fetchBytes = some (i, left) := by
  obtain ⟨f, hf, hassemble⟩ := Option.bind_eq_some_iff.mp (decode_cons _ _ ▸ h)
  unfold State.fetchBytes
  cases f <;> cases hassemble <;> exact ⟨[], by simp [hf, Format.operandBytes, decode_cons, Format.assemble]⟩

/-- A step of a running state whose fetched bytes decode (R185). -/
theorem step_of_decode_eq_some {s : State} {i : Instr} {rest : List Byte} (hs : s.status = .running)
    (hd : decode s.fetchBytes = some (i, rest)) : step s = exec i s := by
  simp only [step, hs, hd]

end Sys2Proof.Machine
end

section
/-! PROOFS. The obligations about the encoding and the fetch (30_encoding.md, 60_exceptions.md section 1). -/

namespace Sys2Proof.Proofs

open Sys2Proof.Machine Sys2Proof.Claims

/-- Settles O2. -/
theorem decodeOfEncode : Obligations.DecodeOfEncode := decode_encode_append

/-- Settles O3: what is decoded comes from an entry of the table, and the encoder writes that entry's bytes. -/
theorem encodeOfDecode : Obligations.EncodeOfDecode := by
  intro bytes i rest h
  obtain ⟨op, f, w, hf, rfl, rfl⟩ := decode_eq_some h
  rw [encode_of_dispatchEntry hf]

/-- Settles O4: both sides say that the first byte has an entry and its format's operand bytes follow. -/
theorem legalBytesAreTheEncodings : Obligations.LegalBytesAreTheEncodings := by
  refine ⟨fun bytes => ⟨fun h => ?_, ?_⟩, fun i => ?_⟩
  · match bytes with
    | op :: operands =>
      obtain ⟨f, hf, hlength⟩ := encodingWf_iff.mp h
      obtain ⟨w, rfl⟩ := Format.exists_operands_eq hlength
      exact ⟨f.instr w, (encode_of_dispatchEntry hf w).symm⟩
  · rintro ⟨i, rfl⟩
    obtain ⟨op, f, w, hf, -, hencode⟩ := exists_dispatchEntry i
    rw [hencode]
    exact encodingWf_iff.mpr ⟨f, hf, f.length_operands w⟩
  · obtain ⟨op, f, w, -, -, hencode⟩ := exists_dispatchEntry i
    rw [hencode, List.length_cons, Format.length_operands]
    cases f <;> simp [Format.operandBytes]

/-- Settles O1: each word is the encoding of the instruction named, or begins with an empty opcode byte. -/
theorem specWordsDecode : Obligations.SpecWordsDecode := by
  unfold Obligations.SpecWordsDecode
  and_intros <;> rfl

/-- Settles O5. -/
theorem stepRunsTheDecodedInstruction : Obligations.StepRunsTheDecodedInstruction := by
  refine ⟨State.readsTheBus, fun s i rest hs h => ?_⟩
  obtain ⟨left, hd⟩ := State.decode_fetchBytes h
  exact step_of_decode_eq_some hs hd

end Sys2Proof.Proofs
end

section
/-! SUPPORT. A canonical store is determined by its cells, a ROM image read back, and a write apart from the other cells
(10_state.md section 5, 20_memory.md). -/

namespace Sys2Proof.Machine

open Sys2Proof.Claims

/-! ### Stores -/

section
variable {w : Nat}

theorem Store.wfFrom_cons {lo size k : Nat} {v : BitVec w} {m : Store w}
    (h : Store.wfFrom lo size ((k, v) :: m) = true) : v ≠ unlistedValue w ∧ Store.wfFrom (k + 1) size m = true := by
  simp only [Store.wfFrom, Bool.and_eq_true, decide_eq_true_eq] at h
  obtain ⟨⟨-, hv⟩, hm⟩ := h
  exact ⟨hv, hm⟩

theorem Store.read_head (k : Nat) (v : BitVec w) (m : Store w) : Store.read ((k, v) :: m) k = v := if_pos rfl

theorem Store.read_tail {k a : Nat} (v : BitVec w) (m : Store w) (h : a ≠ k) :
    Store.read ((k, v) :: m) a = Store.read m a := if_neg h.symm

/-- The first cell listed by a canonical store is no later than any cell that does not read as unlisted. -/
theorem Store.head_le_of_read_ne {lo size k a : Nat} {v : BitVec w} {m : Store w}
    (h : Store.wfFrom lo size ((k, v) :: m) = true) (ha : Store.read ((k, v) :: m) a ≠ unlistedValue w) : k ≤ a := by
  obtain ⟨-, hm⟩ := Store.wfFrom_cons h
  by_contra hlt
  rw [Store.read_tail v m (by omega), Store.read_below hm (by omega)] at ha
  exact ha rfl

/-- Canonical stores that read alike are equal: the first cells listed are the first that do not read as unlisted. -/
theorem Store.ext_of_wfFrom {lo lo' size size' : Nat} {m n : Store w} (hm : Store.wfFrom lo size m = true)
    (hn : Store.wfFrom lo' size' n = true) (h : ∀ a, Store.read m a = Store.read n a) : m = n := by
  induction m generalizing lo lo' n with
  | nil =>
    match n with
    | [] => rfl
    | (k, v) :: n' =>
      obtain ⟨hv, -⟩ := Store.wfFrom_cons hn
      exact absurd (((h k).trans (Store.read_head k v n')).symm) hv
  | cons e m' ih =>
    obtain ⟨k, v⟩ := e
    obtain ⟨hv, hm'⟩ := Store.wfFrom_cons hm
    match n with
    | [] => exact absurd ((Store.read_head k v m').symm.trans (h k)) hv
    | (j, u) :: n' =>
      obtain ⟨hu, hn'⟩ := Store.wfFrom_cons hn
      have hkj : k ≤ j := Store.head_le_of_read_ne hm (by rwa [h, Store.read_head])
      have hjk : j ≤ k := Store.head_le_of_read_ne hn (by rwa [← h, Store.read_head])
      obtain rfl : k = j := Nat.le_antisymm hkj hjk
      obtain rfl : v = u := by simpa only [Store.read_head] using h k
      refine congrArg _ (ih hm' hn' fun a => ?_)
      by_cases ha : a = k
      · rw [Store.read_below hm' (by omega), Store.read_below hn' (by omega)]
      · simpa only [Store.read_tail v _ ha] using h a

/-- The cells of a list of values hold them in order, and the unlisted value after them. -/
theorem Store.read_ofValuesFrom (a n : Nat) (vs : List (BitVec w)) :
    Store.read (Store.ofValuesFrom a vs) (a + n) = vs.getD n (unlistedValue w) := by
  induction vs generalizing a n with
  | nil => rfl
  | cons v rest ih =>
    cases n with
    | zero =>
      refine Store.read_cons_self a v _ (Store.read_below (lo := a + 1) (size := a + 1 + rest.length) ?_ (by omega))
      exact Store.ofValuesFrom_wfFrom _ _ rest le_rfl
    | succ n =>
      have hne : a + (n + 1) ≠ a := by omega
      have hshift : a + (n + 1) = a + 1 + n := by omega
      rw [Store.ofValuesFrom, Store.read_cons_other v _ hne, hshift, ih]
      rfl

end

theorem Store.loadRom_eq_some {size : Nat} {bytes : List Byte} {m : Store 8} :
    Store.loadRom size bytes = some m ↔ bytes.length = size ∧ m = Store.ofValuesFrom 0 bytes := by
  rw [Store.loadRom, Option.ite_none_right_eq_some, Option.some.injEq, eq_comm (a := m)]

theorem Store.loadRom_eq_none {size : Nat} {bytes : List Byte} :
    Store.loadRom size bytes = none ↔ bytes.length ≠ size := by
  simp [Store.loadRom]

/-- A loaded image reads as its bytes (R214). -/
theorem Store.read_loadRom {size : Nat} {bytes : List Byte} {m : Store 8} (h : Store.loadRom size bytes = some m)
    (n : Nat) : m.read n = bytes.getD n 0 := by
  obtain ⟨-, rfl⟩ := Store.loadRom_eq_some.mp h
  exact (congrArg _ (Nat.zero_add n).symm).trans (Store.read_ofValuesFrom 0 n bytes)

/-- A launch with three images: each is loaded, and the rest is as given. -/
theorem PowerOn.withRoms_eq_some {p q : PowerOn} {char basic kernal : List Byte}
    (h : p.withRoms char basic kernal = some q) : ∃ c b k, Store.loadRom 4096 char = some c ∧
      Store.loadRom 8192 basic = some b ∧ Store.loadRom 8192 kernal = some k ∧
      q = { p with bus := { p.bus with charRom := c, basicRom := b, kernalRom := k } } := by
  unfold PowerOn.withRoms at h
  split at h
  next c b k hc hb hk => exact ⟨c, b, k, hc, hb, hk, (Option.some.inj h).symm⟩
  next => cases h

/-- A launch fails exactly when one of its images does. -/
theorem PowerOn.withRoms_eq_none {p : PowerOn} {char basic kernal : List Byte} :
    p.withRoms char basic kernal = none ↔ Store.loadRom 4096 char = none ∨ Store.loadRom 8192 basic = none ∨
      Store.loadRom 8192 kernal = none := by
  unfold PowerOn.withRoms
  cases Store.loadRom 4096 char <;> cases Store.loadRom 8192 basic <;> cases Store.loadRom 8192 kernal <;> simp

/-! ### Writes apart from the other cells -/

/-- The value in every cell but the one written is as before. -/
theorem Bus.readAt_writeAt_other (b : Bus) (d v : Byte) {cell written : Backing} (h : cell ≠ written) :
    (b.writeAt written v).readAt d cell = b.readAt d cell := by
  cases written with
  | ddr =>
    cases cell with
    | ddr => exact absurd rfl h
    | _ => rfl
  | port =>
    cases cell with
    | port => exact absurd rfl h
    | _ => rfl
  | ram a => exact Bus.readAt_ram_write_other d v h
  | vid o =>
    cases cell with
    | vid c => exact Bus.vidRead_vidWrite_other b d v fun hc => h (congrArg Backing.vid hc)
    | _ => rw [Bus.writeAt, Bus.vidWrite_frame]; rfl
  | snd o =>
    cases cell with
    | snd c =>
      exact Vector.getElem_set_ne o.isLt c.isLt fun hc => h (congrArg Backing.snd (BitVec.eq_of_toNat_eq hc.symm))
    | _ => rfl
  | color a =>
    cases cell with
    | color c =>
      exact congrArg (·.setWidth 8) (Store.read_write_other b.color _ fun hc => h (congrArg Backing.color hc))
    | _ => rfl
  | tc1 r =>
    cases cell with
    | tc1 c => exact TimerChip.read_write_other b.tc1 v fun hc => h (congrArg Backing.tc1 hc)
    | _ => rfl
  | tc2 r =>
    cases cell with
    | tc2 c => exact TimerChip.read_write_other b.tc2 v fun hc => h (congrArg Backing.tc2 hc)
    | _ => rfl
  | charRom _ | basicRom _ | kernalRom _ | expansion => rfl

/-- A write anywhere but $0001 keeps the bank state, and so every address that another cell answers. -/
theorem Bus.read_write_other_cell (b : Bus) (d v : Byte) {a c : Word} (ha : a ≠ 1)
    (h : readCell b.bank c ≠ writeCell b.bank a) : (b.write a v).read d c = b.read d c := by
  rw [Bus.read, Bus.write_bank b v ha]
  exact Bus.readAt_writeAt_other b d v h

/-- A write to RAM keeps every address but its own, since a RAM cell answers its own address alone. -/
theorem Bus.read_write_ram_other (b : Bus) (d v : Byte) {a c : Word} {n : Nat} (hw : writeCell b.bank a = .ram n)
    (h : c ≠ a) : (b.write a v).read d c = b.read d c := by
  have ha : a ≠ 1 := by
    rintro rfl
    cases hw
  refine Bus.read_write_other_cell b d v ha fun hc => h (BitVec.eq_of_toNat_eq ?_)
  exact (readCell_ram_eq (hc.trans hw)).symm.trans (writeCell_ram_eq hw)

/-- A write to the stack keeps every address but its own (R22). -/
theorem Bus.read_write_stackByte_other (b : Bus) (d v : Byte) {sp : Byte} {c : Word} (h : c ≠ stackByte sp) :
    (b.write (stackByte sp) v).read d c = b.read d c :=
  Bus.read_write_ram_other b d v (writeCell_stackByte b.bank sp) h

/-! ### What no write changes -/

/-- The video offsets whose cells no bus write changes (R71, R72). -/
def unwrittenVid : List (BitVec 6) := [0x12, 0x19, 0x1E, 0x1F]

/-- The bus goes from `b` to `c` with the ROM images and the unwritten video cells as they were, and bit 7 of
VID[0x11] left 0 (R40, R70 to R72). -/
structure Bus.KeepsUnwritten (b c : Bus) : Prop where
  charRom : c.charRom = b.charRom
  basicRom : c.basicRom = b.basicRom
  kernalRom : c.kernalRom = b.kernalRom
  vid : ∀ o ∈ unwrittenVid, vidReg c o = vidReg b o
  bit7 : (vidReg b 0x11).getLsbD 7 = false → (vidReg c 0x11).getLsbD 7 = false

theorem Bus.KeepsUnwritten.refl (b : Bus) : b.KeepsUnwritten b := ⟨rfl, rfl, rfl, fun _ _ => rfl, id⟩

theorem Bus.KeepsUnwritten.trans {b c e : Bus} (h : b.KeepsUnwritten c) (h' : c.KeepsUnwritten e) :
    b.KeepsUnwritten e where
  charRom := h'.charRom.trans h.charRom
  basicRom := h'.basicRom.trans h.basicRom
  kernalRom := h'.kernalRom.trans h.kernalRom
  vid o ho := (h'.vid o ho).trans (h.vid o ho)
  bit7 hb := h'.bit7 (h.bit7 hb)

/-- A video write leaves the unwritten cells, at whichever offset it is (R71, R72). -/
theorem vidReg_vidWrite_unwritten (b : Bus) (o : BitVec 6) (v : Byte) :
    ∀ c ∈ unwrittenVid, vidReg (b.vidWrite o v) c = vidReg b c := by
  intro c hc
  by_cases ho : c = o
  · subst ho
    simp only [unwrittenVid, List.mem_cons, List.not_mem_nil, or_false] at hc
    rcases hc with rfl | rfl | rfl | rfl
    · rw [Bus.vidWrite_0x12 b v rfl]; rfl
    all_goals rw [Bus.vidWrite_readOnly b v (by decide)]
  · exact vidReg_vidWrite_other b v ho

/-- A write of video offset 0x11 stores its low seven bits (R70). -/
theorem vidReg_vidWrite_bit7 (b : Bus) (o : BitVec 6) (v : Byte) (h : (vidReg b 0x11).getLsbD 7 = false) :
    (vidReg (b.vidWrite o v) 0x11).getLsbD 7 = false := by
  by_cases ho : 0x11 = o
  · subst ho
    rw [Bus.vidWrite_0x11 b v rfl, vidReg, Vector.getElem_set_self, BitVec.getLsbD_and]
    exact Bool.and_false _
  · rwa [vidReg_vidWrite_other b v ho]

theorem Bus.writeAt_vid_field (b : Bus) (v : Byte) {cell : Backing} (h : ∀ o, cell ≠ .vid o) :
    (b.writeAt cell v).vid = b.vid := by
  cases cell with
  | vid o => exact absurd rfl (h o)
  | _ => rfl

theorem Bus.write_keepsUnwritten (b : Bus) (addr : Word) (v : Byte) : b.KeepsUnwritten (b.write addr v) := by
  obtain ⟨hchar, hbasic, hkernal⟩ := Bus.write_roms b addr v
  by_cases h : ∃ o, writeCell b.bank addr = .vid o
  · obtain ⟨o, h⟩ := h
    have hwrite : b.write addr v = b.vidWrite o v := by rw [Bus.write, h]; rfl
    refine ⟨hchar, hbasic, hkernal, ?_, ?_⟩ <;> rw [hwrite]
    · exact vidReg_vidWrite_unwritten b o v
    · exact vidReg_vidWrite_bit7 b o v
  · have hvid : (b.write addr v).vid = b.vid := Bus.writeAt_vid_field b v (not_exists.mp h)
    have hreg (o : BitVec 6) : vidReg (b.write addr v) o = vidReg b o := by simp only [vidReg, hvid]
    exact ⟨hchar, hbasic, hkernal, fun o _ => hreg o, fun hb => by rwa [hreg]⟩

/-! ### Steps -/

/-- The inversion of `step` for what lies outside the decoder: the step completed, or it raised a fault. -/
theorem step_completed_or_faulted {s t : State} (h : step s = .next t) :
    s.status = .running ∧ (Completed s t ∨ ∃ k op, t = s.raiseFault k op) := by
  obtain ⟨hs, ⟨i, -, -, hexec⟩ | ⟨-, rfl⟩⟩ := step_cases h
  · exact ⟨hs, (exec_cases hexec).imp_right fun ⟨k, hk⟩ => ⟨k, _, hk⟩⟩
  · exact ⟨hs, .inr ⟨_, _, rfl⟩⟩

/-- A step changes the bus by bus writes alone. -/
theorem step_bus {s t : State} (h : step s = .next t) : ∃ ws, t.bus = s.bus.writes ws := by
  obtain ⟨-, hdone | ⟨k, op, rfl⟩⟩ := step_completed_or_faulted h
  · exact hdone.bus
  · exact ⟨[], rfl⟩

end Sys2Proof.Machine
end

section
/-! PROOFS. The obligations about the stores, the I/O sub-decode, and what every step keeps (10_state.md,
20_memory.md, 70_reset_and_hazards.md). -/

namespace Sys2Proof.Proofs

open Sys2Proof.Machine Sys2Proof.Claims

/-- Settles O14. -/
theorem equalCellsMakeEqualStores : Obligations.EqualCellsMakeEqualStores := fun _ _ _ _ hm hn h =>
  Store.ext_of_wfFrom hm hn h

/-- Settles O11: a machine is built exactly when all three images load, and each reads as its bytes. -/
theorem romImagesMustHaveTheirSizes : Obligations.RomImagesMustHaveTheirSizes := by
  intro p char basic kernal
  refine ⟨?_, fun q hq => ?_⟩
  · rw [PowerOn.withRoms_eq_none, Store.loadRom_eq_none, Store.loadRom_eq_none, Store.loadRom_eq_none]
    tauto
  · obtain ⟨c, b, k, hc, hb, hk, rfl⟩ := PowerOn.withRoms_eq_some hq
    exact ⟨Store.read_loadRom hc, Store.read_loadRom hb, Store.read_loadRom hk, rfl⟩

/-- Settles O12. -/
theorem resetMeetsTheInvariant : Obligations.ResetMeetsTheInvariant :=
  ⟨State.reset_wf, by decide, rfl, by decide, by decide⟩

/-- Settles O20. -/
theorem aWriteTouchesOnlyItsCell : Obligations.AWriteTouchesOnlyItsCell := fun b d _ _ v =>
  ⟨Bus.read_write_other_cell b d v, fun _ => Bus.read_write_ram_other b d v⟩

/-- Settles O23. -/
theorem ioSubDecode : Obligations.IoSubDecode := fun _ =>
  ⟨ioCell_eq_vid, ioCell_eq_snd, ioCell_eq_color, ioCell_eq_ram, ioCell_eq_tc1, ioCell_eq_tc2, ioCell_eq_expansion⟩

/-- Settles O13: a step changes the bus by writes, and every write keeps the memories canonical. -/
theorem stepKeepsTheMemoriesCanonical : Obligations.StepKeepsTheMemoriesCanonical := by
  intro s t hs hstep
  obtain ⟨ws, hbus⟩ := step_bus hstep
  rw [State.wf, hbus]
  exact Bus.writes_keep (P := (·.wf = true)) (fun _ => Bus.write_wf) ws hs

/-- Settles O15: a step changes the bus by writes, and none of them reaches what the statement names. -/
theorem stepKeepsWhatNothingWrites : Obligations.StepKeepsWhatNothingWrites := by
  intro s t hstep
  obtain ⟨ws, hbus⟩ := step_bus hstep
  have hkeep : s.bus.KeepsUnwritten t.bus := by
    rw [hbus]
    exact Bus.writes_keep (fun b addr v h => h.trans (b.write_keepsUnwritten addr v)) ws (.refl s.bus)
  have hfields : t.params = s.params ∧ t.cyc = s.cyc := by
    obtain ⟨-, hdone | ⟨k, op, rfl⟩⟩ := step_completed_or_faulted hstep
    · exact ⟨hdone.params, hdone.cyc⟩
    · exact ⟨rfl, rfl⟩
  obtain ⟨hparams, hcyc⟩ := hfields
  exact ⟨hkeep.charRom, hkeep.basicRom, hkeep.kernalRom, hparams, hcyc, hkeep.vid _ (by decide),
    hkeep.vid _ (by decide), hkeep.vid _ (by decide), hkeep.vid _ (by decide), hkeep.bit7⟩

/-- Settles O9: the fetch of a step that completes counts, and a fault is raised from the state before the fetch. -/
theorem theInstructionCounterCountsCompletedSteps : Obligations.TheInstructionCounterCountsCompletedSteps := by
  intro s t hstep
  obtain ⟨hs, hdone | ⟨k, op, rfl⟩⟩ := step_completed_or_faulted hstep
  · exact ⟨fun _ => hdone.ic, fun ht => absurd (hdone.status.trans hs) ht⟩
  · exact ⟨fun ht => Status.noConfusion ht, fun _ => rfl⟩

end Sys2Proof.Proofs
end

section
/-! SUPPORT. What the stack instructions can end in, and the frame of every instruction: which registers, which flags
and whether the bus it may change (10_state.md, 20_memory.md section 1). -/

namespace Sys2Proof.Machine

open Sys2Proof.Claims

/-! ### The ends of the stack instructions -/

theorem State.orFault_push_cases {s t : State} {op v : Byte}
    (h : s.orFault .stackOverflow op ((s.fetched 1).push v) = .next t) :
    t = { s.fetched 1 with bus := s.bus.write (stackByte s.sp) v, sp := s.sp - 1 } ∨
      t = faultedWith s .stackOverflow op := by
  by_cases hsp : s.sp = 0
  · cases (State.orFault_push_faults op v hsp).symm.trans h
    exact .inr rfl
  · cases (State.orFault_push op v hsp).symm.trans h
    exact .inl rfl

theorem State.orFault_pull_cases {s t : State} {op : Byte} {f : State × Byte → State}
    (h : s.orFault .stackUnderflow op ((s.fetched 1).pull.map f) = .next t) :
    t = f ({ s.fetched 1 with sp := s.sp + 1 }, (s.fetched 1).read .stack (stackByte (s.sp + 1))) ∨
      t = faultedWith s .stackUnderflow op := by
  by_cases hsp : s.sp = 0xFF
  · cases (State.orFault_pull_faults op f hsp).symm.trans h
    exact .inr rfl
  · cases (State.orFault_pull op f hsp).symm.trans h
    exact .inl rfl

/-- JSR ends with two bytes written to the stack, or in its fault (R166). -/
theorem exec_jsr_cases {s t : State} {hhll : Word} (h : exec (.jsr hhll) s = .next t) :
    (∃ hi lo, t = { s.fetched 3 with
      bus := (s.bus.write (stackByte s.sp) hi).write (stackByte (s.sp - 1)) lo, sp := s.sp - 2, pc := hhll }) ∨
      t = faultedWith s .stackOverflow 0x20 := by
  by_cases hsp : s.sp = 0 ∨ s.sp = 1
  · cases (exec_jsr_faults hhll hsp).symm.trans h
    exact .inr rfl
  · obtain ⟨h0, h1⟩ := not_or.mp hsp
    cases (exec_jsr_completes hhll h0 h1).symm.trans h
    exact .inl ⟨_, _, rfl⟩

/-- RTS ends with S and PC changed, or in its fault (R167). -/
theorem exec_rts_cases {s t : State} (h : exec .rts s = .next t) :
    (∃ target, t = { s.fetched 1 with sp := s.sp + 2, pc := target }) ∨ t = faultedWith s .stackUnderflow 0x60 := by
  by_cases hsp : s.sp = 0xFE ∨ s.sp = 0xFF
  · cases (exec_rts_faults hsp).symm.trans h
    exact .inr rfl
  · obtain ⟨hFE, hFF⟩ := not_or.mp hsp
    cases (exec_rts_completes hFE hFF).symm.trans h
    exact .inl ⟨_, rfl⟩

/-! ### Registers and the bus -/

/-- What the lists of R19 to R22 and R51 leave unchanged: each register, and the bus, is as before unless `i` is listed
as writing it. -/
structure Unlisted (i : Instr) (s t : State) : Prop where
  a : t.a = bif writesA i then t.a else s.a
  x : t.x = bif writesX i then t.x else s.x
  y : t.y = bif writesY i then t.y else s.y
  sp : t.sp = bif writesS i then t.sp else s.sp
  bus : t.bus = bif writesMemory i then t.bus else s.bus

/-- A fault changes neither a register nor the bus (R190). -/
theorem unlisted_faultedWith (i : Instr) (s : State) (k : FaultKind) (op : Byte) :
    Unlisted i s (faultedWith s k op) where
  a := (Bool.cond_self ..).symm
  x := (Bool.cond_self ..).symm
  y := (Bool.cond_self ..).symm
  sp := (Bool.cond_self ..).symm
  bus := (Bool.cond_self ..).symm

/-- Instruction by instruction, the next state holds the old value of what the lists do not name. -/
theorem exec_unlisted {i : Instr} {s t : State} (h : exec i s = .next t) : Unlisted i s t := by
  cases i
  case brk | rti => cases h; exact unlisted_faultedWith ..
  case pha =>
    obtain rfl | rfl := State.orFault_push_cases (exec_pha s ▸ h)
    exacts [⟨rfl, rfl, rfl, rfl, rfl⟩, unlisted_faultedWith ..]
  case php =>
    obtain rfl | rfl := State.orFault_push_cases (exec_php s ▸ h)
    exacts [⟨rfl, rfl, rfl, rfl, rfl⟩, unlisted_faultedWith ..]
  case pla =>
    obtain rfl | rfl := State.orFault_pull_cases (exec_pla s ▸ h)
    exacts [⟨rfl, rfl, rfl, rfl, rfl⟩, unlisted_faultedWith ..]
  case plp =>
    obtain rfl | rfl := State.orFault_pull_cases (exec_plp s ▸ h)
    exacts [⟨rfl, rfl, rfl, rfl, rfl⟩, unlisted_faultedWith ..]
  case jsr hhll =>
    obtain ⟨_, _, rfl⟩ | rfl := exec_jsr_cases h
    exacts [⟨rfl, rfl, rfl, rfl, rfl⟩, unlisted_faultedWith ..]
  case rts =>
    obtain ⟨_, rfl⟩ | rfl := exec_rts_cases h
    exacts [⟨rfl, rfl, rfl, rfl, rfl⟩, unlisted_faultedWith ..]
  case bpl _ | bmi _ | bvc _ | bvs _ | bcc _ | bcs _ | bne _ | beq _ =>
    obtain ⟨_, rfl⟩ := State.branchIf_eq h
    exact ⟨rfl, rfl, rfl, rfl, rfl⟩
  all_goals
    cases h
    exact ⟨rfl, rfl, rfl, rfl, rfl⟩

/-! ### Flags -/

/-- Whether `i` is listed as writing a flag (R26 to R33). -/
def writesFlag (i : Instr) (f : Flag) : Bool :=
  match f with
  | .n | .z => writesNZ i
  | .v => writesV i
  | .c => writesC i
  | .i => [.cli, .sei, .plp].contains i
  | .d => [.cld, .sed, .plp].contains i
  | .b => [.plp].contains i

/-- The flags that `i` is listed as writing. -/
def writtenFlags (i : Instr) : List Flag := [.n, .v, .b, .d, .i, .z, .c].filter (writesFlag i)

theorem not_mem_writtenFlags {i : Instr} {f : Flag} (h : writesFlag i f = false) : f ∉ writtenFlags i := by
  intro hf
  rw [writtenFlags, List.mem_filter, h] at hf
  exact Bool.false_ne_true hf.2

section
variable (p : Byte)

theorem keepsFlags_setNZ (v : Byte) : KeepsFlags [.n, .z] p (setNZ p v) := by
  obtain ⟨-, -, hkeeps⟩ := setNZ_nzOf p v
  exact hkeeps

theorem keepsFlags_addNZCV (r o : Byte) (cin : Bool) : KeepsFlags [.n, .v, .z, .c] p (addNZCV p r o cin) := by
  obtain ⟨-, -, hkeeps⟩ := addNZCV_zn_keeps p r o cin
  exact hkeeps

theorem keepsFlags_shifted (out : Bool) (r : Byte) : KeepsFlags [.n, .z, .c] p (shifted p out r).p :=
  keepsFlags_setFlag _ (by decide) (keepsFlags_setFlag _ (by decide)
    (keepsFlags_setFlag _ (by decide) (keepsFlags_refl _ p)))

end

/-- Instruction by instruction, the next P is the old one after a flag computation that writes the flags listed; PLP
alone takes P whole from the stack. -/
theorem exec_keepsFlags {i : Instr} {s t : State} (hi : i ≠ .plp) (h : exec i s = .next t) :
    KeepsFlags (writtenFlags i) s.p t.p := by
  cases i
  case plp => exact absurd rfl hi
  case pha =>
    obtain rfl | rfl := State.orFault_push_cases (exec_pha s ▸ h) <;> exact keepsFlags_refl ..
  case php =>
    obtain rfl | rfl := State.orFault_push_cases (exec_php s ▸ h) <;> exact keepsFlags_refl ..
  case pla =>
    obtain rfl | rfl := State.orFault_pull_cases (exec_pla s ▸ h)
    · exact keepsFlags_setNZ ..
    · exact keepsFlags_refl ..
  case jsr hhll =>
    obtain ⟨_, _, rfl⟩ | rfl := exec_jsr_cases h <;> exact keepsFlags_refl ..
  case rts =>
    obtain ⟨_, rfl⟩ | rfl := exec_rts_cases h <;> exact keepsFlags_refl ..
  case bpl _ | bmi _ | bvc _ | bvs _ | bcc _ | bcs _ | bne _ | beq _ =>
    obtain ⟨_, rfl⟩ := State.branchIf_eq h
    exact keepsFlags_refl ..
  case staZp _ | staZpx _ | staAbs _ | staAbsx _ | staAbsy _ | staIndx _ | staIndy _ | stxZp _ | stxZpy _ | stxAbs _ |
      styZp _ | styZpx _ | styAbs _ | txs | jmpAbs _ | jmpInd _ | nop | brk | rti =>
    cases h
    exact keepsFlags_refl ..
  case adcImm _ | adcZp _ | adcZpx _ | adcAbs _ | adcAbsx _ | adcAbsy _ | adcIndx _ | adcIndy _ | sbcImm _ | sbcZp _ |
      sbcZpx _ | sbcAbs _ | sbcAbsx _ | sbcAbsy _ | sbcIndx _ | sbcIndy _ =>
    cases h
    exact keepsFlags_addNZCV ..
  case cmpImm _ | cmpZp _ | cmpZpx _ | cmpAbs _ | cmpAbsx _ | cmpAbsy _ | cmpIndx _ | cmpIndy _ | cpxImm _ | cpxZp _ |
      cpxAbs _ | cpyImm _ | cpyZp _ | cpyAbs _ =>
    cases h
    exact keepsFlags_addNZC ..
  case bitZp _ | bitAbs _ =>
    cases h
    exact keepsFlags_bitFlags ..
  case aslAcc | aslZp _ | aslZpx _ | aslAbs _ | aslAbsx _ | lsrAcc | lsrZp _ | lsrZpx _ | lsrAbs _ | lsrAbsx _ |
      rolAcc | rolZp _ | rolZpx _ | rolAbs _ | rolAbsx _ | rorAcc | rorZp _ | rorZpx _ | rorAbs _ | rorAbsx _ =>
    cases h
    exact keepsFlags_shifted ..
  case clc | sec | cli | sei | cld | sed | clv =>
    cases h
    exact (setFlag_spec ..).2
  all_goals
    cases h
    exact keepsFlags_setNZ ..

end Sys2Proof.Machine
end

section
/-! PROOFS. The obligations about what an instruction may change (10_state.md, 20_memory.md). -/

namespace Sys2Proof.Proofs

open Sys2Proof.Machine Sys2Proof.Claims

/-- Settles O54. -/
theorem onlyListedInstructionsWriteARegister : Obligations.OnlyListedInstructionsWriteARegister := by
  intro i s t h
  obtain ⟨ha, hx, hy, hsp, -⟩ := exec_unlisted h
  exact ⟨fun hi => ha.trans (hi ▸ rfl), fun hi => hx.trans (hi ▸ rfl), fun hi => hy.trans (hi ▸ rfl),
    fun hi => hsp.trans (hi ▸ rfl)⟩

/-- Settles O55: a flag that is not listed is kept, and PLP is listed for every flag. -/
theorem onlyListedInstructionsWriteAFlag : Obligations.OnlyListedInstructionsWriteAFlag := by
  intro i s t h
  have hkeep (f : Flag) (hf : writesFlag i f = false) : getFlag t.p f = getFlag s.p f := by
    by_cases hi : i = .plp
    · subst hi
      cases f <;> cases hf
    · obtain ⟨hflags, -⟩ := exec_keepsFlags hi h
      exact hflags f (not_mem_writtenFlags hf)
  refine ⟨hkeep .c, hkeep .v, fun hi => ⟨hkeep .n hi, hkeep .z hi⟩, fun hi => hkeep .i ?_, fun hi => hkeep .d ?_,
    fun hi => ⟨hkeep .b ?_, ?_⟩⟩
  · simpa [writesFlag] using hi
  · simpa [writesFlag] using hi
  · simpa [writesFlag] using hi
  · obtain ⟨-, hbit5⟩ := exec_keepsFlags hi h
    exact hbit5

/-- Settles O56. -/
theorem nonStoringInstructionsLeaveMemory : Obligations.NonStoringInstructionsLeaveMemory := by
  intro i s t hi h
  have hbus : t.bus = s.bus := (exec_unlisted h).bus.trans (hi ▸ rfl)
  exact ⟨hbus, fun d addr => by rw [hbus]⟩

end Sys2Proof.Proofs
end

section
/-! SUPPORT. States that differ in bits D, I, B and 5 of P alone, and what each flag computation and each operation
makes of them (10_state.md section 2). -/

namespace Sys2Proof.Machine

open Sys2Proof.Claims

/-- Two status bytes agree in N, V, Z and C, the flags that 0xC3 masks. -/
def AgreeNVZC (p q : Byte) : Prop := ∀ f ∈ [Flag.n, .v, .z, .c], getFlag q f = getFlag p f

theorem getFlag_and_0xC3 (p : Byte) (f : Flag) :
    getFlag (p &&& 0xC3) f = ([Flag.n, .v, .z, .c].contains f && getFlag p f) := by
  cases f <;> simp [getFlag, Flag.bit]

theorem and_0xC3_eq_iff {p q : Byte} : q &&& 0xC3 = p &&& 0xC3 ↔ AgreeNVZC p q := by
  constructor
  · intro h f hf
    have hmask := congrArg (getFlag · f) h
    simp only [getFlag_and_0xC3, List.contains_iff_mem.mpr hf, Bool.true_and] at hmask
    exact hmask
  · intro h
    refine status_ext (fun f => ?_) (by simp)
    rw [getFlag_and_0xC3, getFlag_and_0xC3]
    by_cases hf : f ∈ [Flag.n, .v, .z, .c]
    · rw [h f hf]
    · simp [hf]

section
variable {p q : Byte} (h : AgreeNVZC p q)
include h

theorem AgreeNVZC.setFlag (f : Flag) (on : Bool) : AgreeNVZC (setFlag p f on) (setFlag q f on) := by
  intro g hg
  rw [getFlag_setFlag, getFlag_setFlag, h g hg]

theorem AgreeNVZC.setNZ (v : Byte) : AgreeNVZC (setNZ p v) (setNZ q v) := (h.setFlag _ _).setFlag _ _

theorem AgreeNVZC.addNZC (r o : Byte) (cin : Bool) : AgreeNVZC (addNZC p r o cin) (addNZC q r o cin) :=
  (h.setNZ _).setFlag _ _

theorem AgreeNVZC.addNZCV (r o : Byte) (cin : Bool) : AgreeNVZC (addNZCV p r o cin) (addNZCV q r o cin) :=
  (h.addNZC r o cin).setFlag _ _

theorem AgreeNVZC.bitFlags (a m : Byte) : AgreeNVZC (bitFlags p a m) (bitFlags q a m) :=
  ((h.setFlag _ _).setFlag _ _).setFlag _ _

theorem AgreeNVZC.shifted (out : Bool) (r : Byte) : AgreeNVZC (shifted p out r).p (shifted q out r).p :=
  (h.setFlag _ _).setNZ r

/-- C is the one flag that arithmetic and the rotations read (R133, R151). -/
theorem AgreeNVZC.carry : getFlag q .c = getFlag p .c := h .c (by decide)

theorem AgreeNVZC.rotateLeft_value (v : Byte) : (rotateLeft q v).value = (rotateLeft p v).value := by
  simp only [rotateLeft, Machine.shifted, h.carry]

theorem AgreeNVZC.rotateRight_value (v : Byte) : (rotateRight q v).value = (rotateRight p v).value := by
  simp only [rotateRight, Machine.shifted, h.carry]

theorem AgreeNVZC.rotateLeft_p (v : Byte) : AgreeNVZC (rotateLeft p v).p (rotateLeft q v).p := by
  simp only [rotateLeft, h.carry]
  exact h.shifted _ _

theorem AgreeNVZC.rotateRight_p (v : Byte) : AgreeNVZC (rotateRight p v).p (rotateRight q v).p := by
  simp only [rotateRight, h.carry]
  exact h.shifted _ _

end

/-- Two results are next states that differ in bits D, I, B and 5 of P alone. -/
def AgreeButInert (r r' : Result) : Prop :=
  ∃ t q, r = .next t ∧ r' = .next { t with p := q } ∧ AgreeNVZC t.p q

section
variable {s : State} {q : Byte}

/-- A modification in memory whose value reads P through N, V, Z and C alone. -/
theorem agreeButInert_modify (len : Nat) (m : MemOperand) {f : Byte → Byte → Modified}
    (hvalue : ∀ v, (f q v).value = (f s.p v).value) (hp : ∀ v, AgreeNVZC (f s.p v).p (f q v).p) :
    AgreeButInert (.next ((s.fetched len).modify m f)) (.next ((State.fetched { s with p := q } len).modify m f)) := by
  refine ⟨_, (f q ((s.fetched len).load m)).p, rfl, ?_, hp _⟩
  simp only [State.modify, State.fetched_p, hvalue]
  rfl

theorem agreeButInert_modifyA {f : Byte → Byte → Modified}
    (hvalue : ∀ v, (f q v).value = (f s.p v).value) (hp : ∀ v, AgreeNVZC (f s.p v).p (f q v).p) :
    AgreeButInert (.next ((s.fetched 1).modifyA f)) (.next ((State.fetched { s with p := q } 1).modifyA f)) := by
  refine ⟨_, (f q s.a).p, rfl, ?_, hp _⟩
  simp only [State.modifyA, State.fetched_p, State.fetched_a, hvalue]
  rfl

variable (h : AgreeNVZC s.p q)
include h

/-- `Add` reads P through C alone (R133). -/
theorem agreeButInert_addToA (len : Nat) (o : Byte) : AgreeButInert (.next ((s.fetched len).addToA o))
    (.next ((State.fetched { s with p := q } len).addToA o)) := by
  refine ⟨_, addNZCV q s.a o (getFlag s.p .c), rfl, ?_, h.addNZCV _ _ _⟩
  simp only [State.addToA, State.fetched, h.carry]

/-- A branch on the same condition goes the same way. -/
theorem agreeButInert_branchIf {cond cond' : Bool} (hcond : cond' = cond) (off : Byte) :
    AgreeButInert (s.branchIf cond off) (State.branchIf { s with p := q } cond' off) := by
  subst hcond
  exact ⟨_, q, State.branchIf_eq_next .., State.branchIf_eq_next .., h⟩

/-- A fault keeps P (R190). -/
theorem agreeButInert_faultedWith (k : FaultKind) (op : Byte) :
    AgreeButInert (.next (faultedWith s k op)) (.next (faultedWith { s with p := q } k op)) := ⟨_, q, rfl, rfl, h⟩

/-- A push of one byte, whatever the other bits of P (R169). -/
theorem agreeButInert_push (op v : Byte) : AgreeButInert (s.orFault .stackOverflow op ((s.fetched 1).push v))
    (State.orFault { s with p := q } .stackOverflow op ((State.fetched { s with p := q } 1).push v)) := by
  by_cases hsp : s.sp = 0
  · rw [State.orFault_push_faults op v hsp, State.orFault_push_faults (s := { s with p := q }) op v hsp]
    exact agreeButInert_faultedWith h ..
  · rw [State.orFault_push op v hsp, State.orFault_push (s := { s with p := q }) op v hsp]
    exact ⟨_, q, rfl, rfl, h⟩

/-- A pull of one byte that ends in `f`, when `f` reads P through N, V, Z and C alone (R170). -/
theorem agreeButInert_pull (op : Byte) {f : State × Byte → State}
    (hf : ∀ u v q', AgreeNVZC u.p q' → AgreeButInert (.next (f (u, v))) (.next (f ({ u with p := q' }, v)))) :
    AgreeButInert (s.orFault .stackUnderflow op ((s.fetched 1).pull.map f))
      (State.orFault { s with p := q } .stackUnderflow op ((State.fetched { s with p := q } 1).pull.map f)) := by
  by_cases hsp : s.sp = 0xFF
  · rw [State.orFault_pull_faults op f hsp, State.orFault_pull_faults (s := { s with p := q }) op f hsp]
    exact agreeButInert_faultedWith h ..
  · rw [State.orFault_pull op f hsp, State.orFault_pull (s := { s with p := q }) op f hsp]
    exact hf _ _ q h

end

/-- Every instruction but PHP, run in two states that differ in the inert bits of P alone. -/
theorem exec_agreeButInert {i : Instr} {s : State} {q : Byte} (hi : i ≠ .php) (h : AgreeNVZC s.p q) :
    AgreeButInert (exec i s) (exec i { s with p := q }) := by
  cases i
  case php => exact absurd rfl hi
  case pha => exact agreeButInert_push h 0x48 s.a
  case pla => exact agreeButInert_pull h 0x68 fun _ _ _ hu => ⟨_, _, rfl, rfl, hu.setNZ _⟩
  case plp => exact agreeButInert_pull h 0x28 fun _ _ _ _ => ⟨_, _, rfl, rfl, fun _ _ => rfl⟩
  case jsr hhll =>
    by_cases hsp : s.sp = 0 ∨ s.sp = 1
    · rw [exec_jsr_faults hhll hsp, exec_jsr_faults (s := { s with p := q }) hhll hsp]
      exact agreeButInert_faultedWith h ..
    · obtain ⟨h0, h1⟩ := not_or.mp hsp
      rw [exec_jsr_completes hhll h0 h1, exec_jsr_completes (s := { s with p := q }) hhll h0 h1]
      exact ⟨_, q, rfl, rfl, h⟩
  case rts =>
    by_cases hsp : s.sp = 0xFE ∨ s.sp = 0xFF
    · rw [exec_rts_faults hsp, exec_rts_faults (s := { s with p := q }) hsp]
      exact agreeButInert_faultedWith h ..
    · obtain ⟨hFE, hFF⟩ := not_or.mp hsp
      rw [exec_rts_completes hFE hFF, exec_rts_completes (s := { s with p := q }) hFE hFF]
      exact ⟨_, q, rfl, rfl, h⟩
  case bpl nn => exact agreeButInert_branchIf h (congrArg _ (h .n (by decide))) nn
  case bmi nn => exact agreeButInert_branchIf h (h .n (by decide)) nn
  case bvc nn => exact agreeButInert_branchIf h (congrArg _ (h .v (by decide))) nn
  case bvs nn => exact agreeButInert_branchIf h (h .v (by decide)) nn
  case bcc nn => exact agreeButInert_branchIf h (congrArg _ (h .c (by decide))) nn
  case bcs nn => exact agreeButInert_branchIf h (h .c (by decide)) nn
  case bne nn => exact agreeButInert_branchIf h (congrArg _ (h .z (by decide))) nn
  case beq nn => exact agreeButInert_branchIf h (h .z (by decide)) nn
  case adcImm _ | adcZp _ | adcZpx _ | adcAbs _ | adcAbsx _ | adcAbsy _ | adcIndx _ | adcIndy _ | sbcImm _ | sbcZp _ |
      sbcZpx _ | sbcAbs _ | sbcAbsx _ | sbcAbsy _ | sbcIndx _ | sbcIndy _ =>
    exact agreeButInert_addToA h _ _
  case rolAcc => exact agreeButInert_modifyA h.rotateLeft_value h.rotateLeft_p
  case rolZp _ | rolZpx _ | rolAbs _ | rolAbsx _ => exact agreeButInert_modify _ _ h.rotateLeft_value h.rotateLeft_p
  case rorAcc => exact agreeButInert_modifyA h.rotateRight_value h.rotateRight_p
  case rorZp _ | rorZpx _ | rorAbs _ | rorAbsx _ => exact agreeButInert_modify _ _ h.rotateRight_value h.rotateRight_p
  case staZp _ | staZpx _ | staAbs _ | staAbsx _ | staAbsy _ | staIndx _ | staIndy _ | stxZp _ | stxZpy _ | stxAbs _ |
      styZp _ | styZpx _ | styAbs _ | txs | jmpAbs _ | jmpInd _ | nop | brk | rti =>
    exact ⟨_, _, rfl, rfl, h⟩
  case cmpImm _ | cmpZp _ | cmpZpx _ | cmpAbs _ | cmpAbsx _ | cmpAbsy _ | cmpIndx _ | cmpIndy _ | cpxImm _ | cpxZp _ |
      cpxAbs _ | cpyImm _ | cpyZp _ | cpyAbs _ =>
    exact ⟨_, _, rfl, rfl, h.addNZC _ _ _⟩
  case bitZp _ | bitAbs _ => exact ⟨_, _, rfl, rfl, h.bitFlags _ _⟩
  case aslAcc | aslZp _ | aslZpx _ | aslAbs _ | aslAbsx _ | lsrAcc | lsrZp _ | lsrZpx _ | lsrAbs _ | lsrAbsx _ =>
    exact ⟨_, _, rfl, rfl, h.shifted _ _⟩
  case clc | sec | cli | sei | cld | sed | clv => exact ⟨_, _, rfl, rfl, h.setFlag _ _⟩
  all_goals exact ⟨_, _, rfl, rfl, h.setNZ _⟩

end Sys2Proof.Machine
end

section
/-! PROOFS. The obligation about the flags that nothing reads (10_state.md section 2). -/

namespace Sys2Proof.Proofs

open Sys2Proof.Machine Sys2Proof.Claims

/-- Settles O59: arithmetic, the rotations and the branches read C, N, V and Z alone, and each flag computation writes
the same bits in both states. -/
theorem decimalInterruptAndBreakFlagsAreInert : Obligations.DecimalInterruptAndBreakFlagsAreInert := by
  intro i s q hi h
  obtain ⟨t, q', ht, hu, hagree⟩ := exec_agreeButInert hi (and_0xC3_eq_iff.mp h)
  exact ⟨t, _, ht, hu, rfl, and_0xC3_eq_iff.mpr hagree⟩

end Sys2Proof.Proofs
end

section
/-! SUPPORT. The forms that store, the return after a call, the nine bits of a rotation, and the host's loop
(20_memory.md, 43_shift_rotate.md, 44_control.md, 60_exceptions.md section 8). -/

namespace Sys2Proof.Machine

open Sys2Proof.Claims

/-! ### The forms that store -/

/-- The instruction of a form makes one bus write, at the effective address of its operand, and changes at most N, Z and
C beside it. -/
def StoresAtOperand (s : State) (f : MemoryForm) : Prop :=
  ∃ v q, KeepsFlags [.n, .z, .c] s.p q ∧
    exec f.instr s = .next { s.fetched f.len with bus := s.bus.write ((s.fetched f.len).ea f.operand) v, p := q }

section
variable {s : State} {f : MemoryForm}

theorem storesAtOperand_of_store {v : Byte} (h : exec f.instr s = .next ((s.fetched f.len).store f.operand v)) :
    StoresAtOperand s f := ⟨v, s.p, keepsFlags_refl .., h⟩

theorem storesAtOperand_of_modify {op : Byte → Byte → Modified}
    (h : exec f.instr s = .next ((s.fetched f.len).modify f.operand op))
    (hop : ∀ v, KeepsFlags [.n, .z, .c] s.p (op s.p v).p) : StoresAtOperand s f := ⟨_, _, hop _, h⟩

end

theorem storesAtOperand_storingForms (s : State) (nn : Byte) (hhll : Word) :
    ∀ f ∈ storingForms nn hhll, StoresAtOperand s f := by
  have hnz (v : Byte) : KeepsFlags [.n, .z, .c] s.p (setNZ s.p v) :=
    keepsFlags_mono (by decide) (keepsFlags_setNZ s.p v)
  intro f hf
  simp only [storingForms, List.mem_append] at hf
  obtain (((((((h | h) | h) | h) | h) | h) | h) | h) | h := hf
  · exact storesAtOperand_of_store (exec_staForms s nn hhll f h)
  · exact storesAtOperand_of_store (exec_stxForms s nn hhll f h)
  · exact storesAtOperand_of_store (exec_styForms s nn hhll f h)
  · exact storesAtOperand_of_modify (exec_incForms s nn hhll f h) fun _ => hnz _
  · exact storesAtOperand_of_modify (exec_decForms s nn hhll f h) fun _ => hnz _
  · exact storesAtOperand_of_modify (exec_aslForms s nn hhll f h) fun _ => keepsFlags_shifted ..
  · exact storesAtOperand_of_modify (exec_lsrForms s nn hhll f h) fun _ => keepsFlags_shifted ..
  · exact storesAtOperand_of_modify (exec_rolForms s nn hhll f h) fun _ => keepsFlags_shifted ..
  · exact storesAtOperand_of_modify (exec_rorForms s nn hhll f h) fun _ => keepsFlags_shifted ..

/-! ### Call and return -/

/-- The two bytes that JSR pushes are read back, low byte first, by the pulls of RTS. -/
theorem Bus.read_pushed_word {b : Bus} (hb : b.wf = true) (d sp hi lo : Byte) :
    let b' := (b.write (stackByte sp) hi).write (stackByte (sp - 1)) lo
    b'.read d (stackByte sp) = hi ∧ b'.read d (stackByte (sp - 1)) = lo := by
  have hne : stackByte sp ≠ stackByte (sp - 1) := by
    intro h
    have h' := congrArg BitVec.toNat h
    rw [stackByte_toNat, stackByte_toNat] at h'
    bv_omega
  refine ⟨?_, Bus.read_write_stackByte (Bus.write_wf _ _ hb) ..⟩
  rw [Bus.read_write_stackByte_other _ d lo hne, Bus.read_write_stackByte hb]

/-- The word that JSR pushes, and the address one past it (R166, R167). -/
theorem returnAddress_add_one (pc : Word) :
    BitVec.ofNat 16 (256 * (BitVec.ofNat 8 ((pc.toNat + 2) % 65536 / 256)).toNat +
      (BitVec.ofNat 8 (pc.toNat + 2)).toNat + 1) = pc + 3 := by
  apply BitVec.eq_of_toNat_eq
  simp only [BitVec.ofNat_eq_ofNat, BitVec.toNat_ofNat, BitVec.toNat_add]
  omega

/-! ### Nine-bit rotation -/

/-- The value of a rotation under the carry, the nine bits that it rotates (R154). -/
def Modified.nineBits (m : Modified) : BitVec 9 := BitVec.ofBool (getFlag m.p .c) ++ m.value

/-- Bit by bit: the value below, the carry on top. -/
theorem Modified.getLsbD_nineBits (m : Modified) (k : Nat) :
    m.nineBits.getLsbD k = if k < 8 then m.value.getLsbD k else (getFlag m.p .c && decide (k = 8)) := by
  have htop : k < 8 ∨ (k - 8 = 0 ↔ k = 8) := by omega
  rw [Modified.nineBits, BitVec.getLsbD_append, BitVec.getLsbD_ofBool]
  rcases htop with hk | hk
  · rw [if_pos hk, if_pos hk]
  · simp only [hk, Bool.and_comm]

theorem Modified.eq_of_nineBits_eq {m m' : Modified} (h : m.nineBits = m'.nineBits) :
    m.value = m'.value ∧ getFlag m.p .c = getFlag m'.p .c := by
  constructor
  · refine BitVec.eq_of_getLsbD_eq fun k hk => ?_
    simpa only [Modified.getLsbD_nineBits, if_pos hk] using congrArg (·.getLsbD k) h
  · simpa only [Modified.getLsbD_nineBits, lt_self_iff_false, if_false, decide_true, Bool.and_true] using
      congrArg (·.getLsbD 8) h

/-- `RotateLeft` rotates the nine bits by one, towards the carry (R151, R154). -/
theorem nineBits_rotateLeft (m : Modified) : (rotateLeft m.p m.value).nineBits = m.nineBits.rotateLeft 1 := by
  refine BitVec.eq_of_getLsbD_eq fun k hk => ?_
  simp only [BitVec.getLsbD_rotateLeft, Modified.getLsbD_nineBits, rotateLeft, shifted]
  interval_cases k <;> simp

/-- `RotateRight` rotates the nine bits by one, the other way (R151, R155). -/
theorem nineBits_rotateRight (m : Modified) : (rotateRight m.p m.value).nineBits = m.nineBits.rotateRight 1 := by
  refine BitVec.eq_of_getLsbD_eq fun k hk => ?_
  simp only [BitVec.getLsbD_rotateRight, Modified.getLsbD_nineBits, rotateRight, shifted]
  interval_cases k <;> simp

/-- Nine rotations by one bring each of nine bits back to its place. -/
theorem rotateLeft_one_iterate_nine (x : BitVec 9) : (BitVec.rotateLeft · 1)^[9] x = x := by
  ext k hk
  interval_cases k <;> simp [BitVec.getElem_rotateLeft]

theorem rotateRight_one_rotateLeft_one (x : BitVec 9) : (x.rotateLeft 1).rotateRight 1 = x := by
  ext k hk
  interval_cases k <;> simp [BitVec.getElem_rotateLeft, BitVec.getElem_rotateRight]

/-! ### The host's loop -/

theorem hostRun_of_next {s t : State} (h : step s = .next t) (rest : List Bool) :
    hostRun (false :: rest) s = hostRun rest t := by
  simp only [hostRun, h]

/-- Where no step is enabled the loop stays, whatever is asked. -/
theorem hostRun_of_no_next {s : State} (h : ∀ t, step s ≠ .next t) (stops : List Bool) : hostRun stops s = s := by
  match stops with
  | [] | true :: _ => rfl
  | false :: rest =>
    rw [hostRun]
    split
    next t ht => exact absurd ht (h t)
    next => rfl
    next => rfl

/-- A Faulted state has no step (R190). -/
theorem step_ne_next_of_hasFaulted {s : State} (h : s.hasFaulted = true) (t : State) : step s ≠ .next t := by
  intro hstep
  obtain ⟨hs, -⟩ := step_cases hstep
  rw [State.hasFaulted, hs] at h
  cases h

/-- Either the loop can go on from a state, or it stays there. -/
theorem step_next_or_none (s : State) : (∃ t, step s = .next t) ∨ ∀ t, step s ≠ .next t := by
  rw [← not_exists]
  exact em _

/-- What stands after a request is not looked at (R205). -/
theorem hostRun_append_request (before later : List Bool) (s : State) :
    hostRun (before ++ true :: later) s = hostRun before s := by
  induction before generalizing s with
  | nil => rfl
  | cons stop rest ih =>
    cases stop with
    | true => rfl
    | false =>
      rcases step_next_or_none s with ⟨t, ht⟩ | hnone
      · rw [List.cons_append, hostRun_of_next ht, hostRun_of_next ht, ih]
      · rw [hostRun_of_no_next hnone, hostRun_of_no_next hnone]

/-- A loop without requests goes on where it ended. -/
theorem hostRun_append_of_no_request {before : List Bool} (h : ∀ b ∈ before, b = false) (later : List Bool)
    (s : State) : hostRun later (hostRun before s) = hostRun (before ++ later) s := by
  induction before generalizing s with
  | nil => rfl
  | cons stop rest ih =>
    obtain ⟨rfl, hrest⟩ := List.forall_mem_cons.mp h
    rcases step_next_or_none s with ⟨t, ht⟩ | hnone
    · rw [List.cons_append, hostRun_of_next ht, hostRun_of_next ht, ih hrest]
    · rw [hostRun_of_no_next hnone, hostRun_of_no_next hnone, hostRun_of_no_next hnone]

end Sys2Proof.Machine
end

section
/-! PROOFS. The obligations about the frame of stores and pushes, call and return, nine rotations, and the host's loop
(20_memory.md, 43_shift_rotate.md, 44_control.md, 45_stack_flag_system.md, 60_exceptions.md section 8). -/

namespace Sys2Proof.Proofs

open Sys2Proof.Machine Sys2Proof.Claims

/-- Settles O57: a storing form is one bus write at its effective address. -/
theorem storingInstructionsFrame : Obligations.StoringInstructionsFrame := by
  intro s t nn hhll f hf h a
  obtain ⟨v, q, hflags, hexec⟩ := storesAtOperand_storingForms s nn hhll f hf
  cases hexec.symm.trans h
  refine ⟨rfl, rfl, rfl, rfl, hflags, fun n hn c d hc => Bus.read_write_ram_other _ d v hn hc,
    fun ha c d hc => Bus.read_write_other_cell _ d v ha hc, fun ha => ?_⟩
  have hport : s.bus.write a v = { s.bus with port := v &&& s.bus.ddr } := by rw [ha]; rfl
  change s.bus.write a v = { s.bus with port := (s.bus.write a v).port }
  rw [hport]

/-- Settles O58: each push is one bus write to its stack byte, and a fault writes nothing. -/
theorem stackInstructionsFrame : Obligations.StackInstructionsFrame := by
  intro s t hhll
  refine ⟨fun h => ?_, fun h => ?_⟩
  · have hends : ∃ op v, t = { s.fetched 1 with bus := s.bus.write (stackByte s.sp) v, sp := s.sp - 1 } ∨
        t = faultedWith s .stackOverflow op := by
      rcases h with h | h
      · exact ⟨_, _, State.orFault_push_cases (exec_pha s ▸ h)⟩
      · exact ⟨_, _, State.orFault_push_cases (exec_php s ▸ h)⟩
    obtain ⟨op, v, rfl | rfl⟩ := hends
    · exact ⟨rfl, rfl, rfl, rfl, fun c d hc => Bus.read_write_stackByte_other _ d v hc⟩
    · exact ⟨rfl, rfl, rfl, rfl, fun _ _ _ => rfl⟩
  · obtain ⟨hi, lo, rfl⟩ | rfl := exec_jsr_cases h
    · refine ⟨rfl, rfl, rfl, rfl, fun c d hc hc' => ?_⟩
      exact (Bus.read_write_stackByte_other _ d lo hc').trans (Bus.read_write_stackByte_other _ d hi hc)
    · exact ⟨rfl, rfl, rfl, rfl, fun _ _ _ _ => rfl⟩

/-- Settles O47: RTS pulls the two bytes that JSR pushed, and goes one past the word they make. -/
theorem returnFollowsTheCall : Obligations.ReturnFollowsTheCall := by
  intro s hhll hwf hsp
  have hpulls : s.sp - 2 ≠ 0xFE ∧ s.sp - 2 ≠ 0xFF := by constructor <;> bv_omega
  refine ⟨_, _, exec_jsr_completes hhll (by bv_omega) (by bv_omega), exec_rts_completes hpulls.1 hpulls.2, ?pc,
    sub_add_cancel s.sp 2, rfl, rfl, rfl, rfl, rfl⟩
  case pc =>
    have hhigh : s.sp - 2 + 2 = s.sp := sub_add_cancel ..
    have hlow : s.sp - 2 + 1 = s.sp - 1 := by bv_omega
    have hread (d : Byte) := Bus.read_pushed_word hwf d s.sp (BitVec.ofNat 8 ((s.pc.toNat + 2) % 65536 / 256))
      (BitVec.ofNat 8 (s.pc.toNat + 2))
    simp only [hhigh, hlow, State.read_eq, State.fetched_bus, hread]
    exact returnAddress_add_one s.pc

/-- Settles O42: the carry and the value are nine bits in rotation, by one place and back or nine times around. -/
theorem nineRotationsRestore : Obligations.NineRotationsRestore := by
  unfold Obligations.NineRotationsRestore
  intro rol p v m
  let start : Modified := { value := v, p := p }
  have hrol (n : Modified) : (rol n).nineBits = n.nineBits.rotateLeft 1 := nineBits_rotateLeft n
  have hnine : m.nineBits = start.nineBits := by
    simp only [m, hrol]
    exact rotateLeft_one_iterate_nine _
  have hback : (rotateRight (rol start).p (rol start).value).nineBits = start.nineBits := by
    rw [nineBits_rotateRight, hrol, rotateRight_one_rotateLeft_one]
  exact ⟨Modified.eq_of_nineBits_eq hnine, Modified.eq_of_nineBits_eq hback⟩

/-- Settles O60: each clause by the loop's first request or first step. -/
theorem aStopRequestKeepsTheWholeState : Obligations.AStopRequestKeepsTheWholeState := fun before later s =>
  ⟨rfl, rfl, fun _ ht => hostRun_of_next ht later,
    fun hfault => hostRun_of_no_next (step_ne_next_of_hasFaulted hfault) _, hostRun_append_request before later s,
    fun hnone => hostRun_append_of_no_request hnone later s⟩

end Sys2Proof.Proofs
end
